-- ==== Sys2Proof/Word.lean ====
section
/-! DEFINITION. The words of the UJ-436: the widths that travel on the link (R169 to R171). -/

namespace Sys2Proof

/-- One byte of the link (R159). -/
abbrev Byte := BitVec 8

/-- A 16-bit stream value (R76). -/
abbrev Word := BitVec 16

/-- A frame stamp: the low 16 bits of the frame number (00_scope, section 5). -/
abbrev Stamp := BitVec 16

/-- The 32-bit frame number, which wraps (R2). -/
abbrev FrameNumber := BitVec 32

/-- A station's 32-bit name (R22). -/
abbrev Name := BitVec 32

end Sys2Proof
end

