-- ==== Sys2Proof/Syntax.lean ====
section
/-! DEFINITION. The commands of the UJ-436: one constructor of `Instr` for each row of spec/opcode_table.json, with the
operands each takes. Meanings stand in Sys2Proof/Machine. -/

namespace Sys2Proof

/-- A station, and the port it is on: station n is on port n (00_scope, section 6). -/
inductive Station where
  | s1 | s2 | s3 | s4
  deriving DecidableEq, Repr

/-- The kind of a hub reset (R19). -/
inductive ResetCause where
  | powerOn | pin
  deriving DecidableEq, Repr

/-- The works that the blocks do at a frame boundary, each one event at its block. Which of them is taken first at one
boundary is open (R41, R85, R120, R144, R25, R31, R153); log entry 3. -/
inductive Work where
  /-- The arrival of the frame timer's TIMING records of the boundary in the event queues, where it has any (R15, R17). -/
  | timing
  /-- The lease countdown of one station, with its lapse when the counter reaches 0 (R25, R27). -/
  | lease (n : Station)
  /-- The latch of all slots, with its ring entries (R85). -/
  | latch
  /-- The lane's work: settings, transfer step, arbitration, hold count (R120). -/
  | lane
  /-- The acknowledgement table's countdown (R144). -/
  | ack
  /-- The epoch commit: removals, then the change list (R41); at epoch boundaries only. -/
  | commit
  /-- The registry's examination of one station in LEAVING (R31); at epoch boundaries only. -/
  | leaving (n : Station)
  deriving DecidableEq, Repr

/-- What a station clocks in after the code byte of a request: the operand bytes, whose number is the length byte, and
the check byte (R161). The bytes are raw, so a wrong length, a wrong check byte and an operand out of range can all be
sent (R164, R168). -/
structure Frame where
  operands : List Byte
  check    : Byte
  deriving DecidableEq, Repr

/-- The commands. A request names the port it arrives on and carries the frame clocked in on it. -/
inductive Instr where
  /-- HUB_RESET (R18): a power-on reset or an assertion of RESET#, through its release. -/
  | hubReset (cause : ResetCause)
  /-- INTERNAL_TIMER_RUNS_OUT (R5). `order` lists the blocks' works taken within this step, in that order. -/
  | internalTimerRunsOut (order : List Work)
  /-- FREF_EDGE (R6): a rising edge, `after` whole microseconds after the present instant. `order` as above. -/
  | frefEdge (after : Nat) (order : List Work)
  /-- SUBSTITUTE_DEADLINE (R11). `order` as above. -/
  | substituteDeadline (order : List Work)
  /-- LEASE_EXPIRY (R27) of station n. -/
  | leaseExpiry (n : Station)
  /-- END_OF_LEAVING (R31) of station n. -/
  | endOfLeaving (n : Station)
  /-- TRANSFER_DELIVERY (R122). -/
  | transferDelivery
  /-- LANE_GRANT (R126). -/
  | laneGrant
  /-- HOLD_EXPIRED (R129). -/
  | holdExpired
  /-- ACK_TIMEOUT (R144). -/
  | ackTimeout
  /-- SELECTION_START (R159): a falling edge of SEL# on port p. -/
  | selectionStart (p : Station)
  /-- SELECTION_END (R166): a rising edge of SEL# on port p, after the SDI bits `sdi` were clocked at a lawful rate. -/
  | selectionEnd (p : Station) (sdi : List Bool)
  /-- SELECTION_OVERRUN (R167): a rising edge of SCK on port p less than 40 ns after the one before it, after the SDI
  bits `sdi` were clocked at a lawful rate. -/
  | selectionOverrun (p : Station) (sdi : List Bool)
  /-- UNKNOWN_REQUEST (R164): a request whose code is not in the request table. -/
  | unknownRequest (p : Station) (code : Byte) (f : Frame)
  | join (p : Station) (f : Frame)
  | leave (p : Station) (f : Frame)
  | detach (p : Station) (f : Frame)
  | renew (p : Station) (f : Frame)
  | readStatus (p : Station) (f : Frame)
  | readFrame (p : Station) (f : Frame)
  | readIdentity (p : Station) (f : Frame)
  | claimCoordinator (p : Station) (f : Frame)
  | resign (p : Station) (f : Frame)
  | setTiming (p : Station) (f : Frame)
  | setLane (p : Station) (f : Frame)
  | setLease (p : Station) (f : Frame)
  | evict (p : Station) (f : Frame)
  | forceRelease (p : Station) (f : Frame)
  | claimSlot (p : Station) (f : Frame)
  | releaseSlot (p : Station) (f : Frame)
  | subscribe (p : Station) (f : Frame)
  | unsubscribe (p : Station) (f : Frame)
  | withdraw (p : Station) (f : Frame)
  | listChanges (p : Station) (f : Frame)
  | readMap (p : Station) (f : Frame)
  | publish (p : Station) (f : Frame)
  | readSlot (p : Station) (f : Frame)
  | drainRing (p : Station) (f : Frame)
  | setWatermark (p : Station) (f : Frame)
  | post (p : Station) (f : Frame)
  | cancel (p : Station) (f : Frame)
  | takeMessage (p : Station) (f : Frame)
  | peekMessage (p : Station) (f : Frame)
  | ack (p : Station) (f : Frame)
  | queueStatus (p : Station) (f : Frame)
  | takeEvent (p : Station) (f : Frame)
  | setMask (p : Station) (f : Frame)
  deriving DecidableEq, Repr

/-- The requests of the table of R170. -/
inductive Request where
  | join | leave | detach | renew | readStatus | readFrame | readIdentity | claimCoordinator | resign
  | setTiming | setLane | setLease | evict | forceRelease
  | claimSlot | releaseSlot | subscribe | unsubscribe | withdraw | listChanges | readMap
  | publish | readSlot | drainRing | setWatermark
  | post | cancel | takeMessage | peekMessage | ack | queueStatus
  | takeEvent | setMask
  deriving DecidableEq, Repr

end Sys2Proof
end

