-- ==== Sys2Proof/Decode.lean ====
section
/-! DEFINITION. The command a word of the opcode table spells. No row of spec/opcode_table.json gives bits (its rows have no
"fixed" and no "fields"): commands arrive as selections on the ports and as events (R163), so no word spells one (log
entry 13). The framing of requests from bits stands in Machine/Link.lean, their codes in Machine/Operands.lean. -/

namespace Sys2Proof

/-- No row gives bits, so no word spells a command (log entry 13). -/
def decodeTableWord (_nbits _w : Nat) : Option Instr := none

end Sys2Proof
end

