-- ==== Sys2Proof/Config.lean ====
section
/-! DEFINITION. The sizes, limits and fixed values of the UJ-436, each with the rule that gives it. The spec leaves no
value open that an instruction stores, so there is no free value here (INVENTORY, "What the manual leaves open"). -/

namespace Sys2Proof.Config

/-- Slots 0 to 47 (R38). -/
abbrev slotCount : Nat := 48
/-- No station produces more than 16 slots (R39). -/
abbrev producerLimit : Nat := 16
/-- At most three consumer records in an entry (R38). -/
abbrev consumerLimit : Nat := 3
/-- The change list holds at most 24 entries (R54). -/
abbrev changeListLimit : Nat := 24
/-- At most 8 change-list entries of one station (R54). -/
abbrev quotaLimit : Nat := 8
/-- A stream ring holds at most 64 entries (R91). -/
abbrev ringCapacity : Nat := 64
/-- The URGENT transmit queue holds at most 4 records (R105). -/
abbrev urgentCapacity : Nat := 4
/-- The NORMAL transmit queue holds at most 8 records (R105). -/
abbrev normalCapacity : Nat := 8
/-- A receive queue has 8 places (R112). -/
abbrev receivePlaces : Nat := 8
/-- At most 4 acknowledgement entries of one station (R138). -/
abbrev ackCapacity : Nat := 4
/-- Ordinary records an event queue holds before the lost-events record is made: 15 of its 16 positions (R152). -/
abbrev ordinaryCapacity : Nat := 15
/-- Age, gap counts and lost-event counts stop at 255 (00_scope, section 6). -/
abbrev saturation : Nat := 255
/-- An epoch is 16 frames (R3). -/
abbrev epochLength : Nat := 16
/-- The lowest frame period in microseconds (R1). -/
abbrev minPeriod : Nat := 100
/-- The highest frame period in microseconds (R1). -/
abbrev maxPeriod : Nat := 20000
/-- The edge interval saturates here (R6). -/
abbrev maxInterval : Nat := 65535
/-- The third consecutive fault loses lock (R12). -/
abbrev faultLimit : Nat := 3
/-- A good edge that finds this good count gains lock (R7). -/
abbrev goodLimit : Nat := 3
/-- A lane length is the payload length plus 4 (R103). -/
abbrev laneOverhead : Nat := 4
/-- The longest payload (R103). -/
abbrev maxPayload : Nat := 60
/-- The counter value that raises LEASE_LOW (R25). -/
abbrev leaseLowAt : Nat := 8
/-- The number of operand bytes a port keeps (R161). -/
abbrev operandsKept : Nat := 66
/-- Vendor code of READ IDENTITY (R173). -/
abbrev vendorCode : BitVec 16 := 0x2E17
/-- Part code of READ IDENTITY, 436 (R173). -/
abbrev partCode : BitVec 16 := 0x01B4
/-- Design revision of READ IDENTITY (R173). -/
abbrev designRevision : BitVec 8 := 1
/-- The CRC polynomial x^8 + x^2 + x + 1 without its top bit (R162). -/
abbrev crcPolynomial : BitVec 8 := 0x07

end Sys2Proof.Config
end

