-- ==== Sys2Proof/Machine/State.lean ====
section
/-! DEFINITION. The state of the UJ-436 as plain data, block by block, and its value after a hub reset. -/

namespace Sys2Proof.Machine

open Sys2Proof

/-! ## Four of a kind -/

/-- One value for each of the four stations or ports. -/
structure PerStation (α : Type) where
  at1 : α
  at2 : α
  at3 : α
  at4 : α
  deriving DecidableEq, Repr

/-! ## Frame timer (spec/01) -/

/-- Timing mode (R1, R5, R6). -/
inductive TimingMode where
  | free | follow
  deriving DecidableEq, Repr

/-- Reference state (spec/01, head table). -/
inductive RefState where
  | off | seeking | locked | lost
  deriving DecidableEq, Repr

/-- A pending timing record (R13). -/
structure TimingRecord where
  period : Nat
  mode   : TimingMode
  deriving DecidableEq, Repr

/-- The frame timer's state (spec/01, head table). Instants are whole microseconds since the reset ended. -/
structure Timer where
  period        : Nat
  mode          : TimingMode
  refState      : RefState
  frame         : FrameNumber
  goodCount     : Nat
  faultCount    : Nat
  lastInterval  : Nat
  prevEdge      : Option Nat
  anchor        : Nat
  pendingTiming : Option TimingRecord
  /-- The instant of the last boundary, or of the end of the reset before the first (R4, R5). -/
  lastBoundary  : Nat
  /-- The present instant. -/
  now           : Nat
  /-- FSYNC stands high: true for the microsecond that begins at a boundary (R2). -/
  fsync         : Bool
  deriving DecidableEq, Repr

/-! ## Station registry (spec/02) -/

/-- The four states of a station (spec/02, section 2.1). -/
inductive StationState where
  | absent | joined | leaving | lapsed
  deriving DecidableEq, Repr

/-- Last-departure cause (spec/02, section 2.1). -/
inductive Cause where
  | none | left | detached | leaseExpired | evicted
  deriving DecidableEq, Repr

/-- A station record (spec/02, section 2.1). -/
structure StationRec where
  state        : StationState
  name         : Name
  leaseCounter : Nat
  token        : Byte
  leasePeriod  : Nat
  cause        : Cause
  seqCounter   : Byte
  deriving DecidableEq, Repr

/-- The registry (spec/02, section 2.1). -/
structure Registry where
  stations     : PerStation StationRec
  coordinator  : Option Station
  leaseSetting : Nat
  resetCause   : ResetCause
  deriving DecidableEq, Repr

/-! ## Slot allocator (spec/03, spec/04) -/

/-- Logging mode of a consumer record (R38). -/
inductive LogMode where
  | none | every | fresh
  deriving DecidableEq, Repr

/-- The producer role of an entry, when there is one (R38). -/
structure Producer where
  station    : Station
  releaseDue : Bool
  orphaned   : Bool
  deriving DecidableEq, Repr

/-- A consumer record (R38). -/
structure Consumer where
  station    : Station
  mode       : LogMode
  releaseDue : Bool
  orphaned   : Bool
  deriving DecidableEq, Repr

/-- One entry of the active map (R38). -/
structure SlotEntry where
  producer  : Option Producer
  consumers : List Consumer
  deriving DecidableEq, Repr

/-- The kinds of a change-list entry as records report them (R53, R169). -/
inductive EntryKind where
  | claim | release | subscribe | unsubscribe | forceRelease
  deriving DecidableEq, Repr

/-- The change an entry makes; a logging mode is present in a SUBSCRIBE alone (R53). -/
inductive ChangeKind where
  | claim | release
  | subscribe (mode : LogMode)
  | unsubscribe | forceRelease
  deriving DecidableEq, Repr

/-- The results of an entry (R69). -/
inductive ChangeResult where
  | ok | slotHeld | notOwner | self | limit | notSubscribed | noEntry
  deriving DecidableEq, Repr

/-- A change-list entry (R53). Origin `none` is FORCED. -/
structure Change where
  id     : Nat
  origin : Option Station
  kind   : ChangeKind
  slot   : Nat
  stamp  : Stamp
  deriving DecidableEq, Repr

/-! ## Slot exchange (spec/05, spec/06) -/

/-- The exchange's state of one slot (R76). Delivered `none` is NONE. -/
structure SlotState where
  buffer    : Word
  written   : Bool
  delivered : Option Word
  age       : Nat
  fresh     : Bool
  stamp     : Stamp
  deriving DecidableEq, Repr

/-- An entry of a stream ring (R91). -/
structure RingEntry where
  slot  : Nat
  stamp : Stamp
  value : Option Word
  fresh : Bool
  gap   : Nat
  deriving DecidableEq, Repr

/-- A stream ring with its pending gap count and watermark, oldest entry first (R91). -/
structure Ring where
  entries   : List RingEntry
  gap       : Nat
  watermark : Nat
  deriving DecidableEq, Repr

/-! ## Message lane (spec/07, spec/08) -/

/-- Message class (R103). -/
inductive MsgClass where
  | normal | urgent
  deriving DecidableEq, Repr

/-- A message record (R103). Destination `none` is a broadcast. `ackTimeout` is present when ack was requested. `posted`
is the message's ordinal in post order (R105; log entry 14). -/
structure Message where
  source     : Station
  dest       : Option Station
  cls        : MsgClass
  tag        : Byte
  seq        : Byte
  ackTimeout : Option Nat
  payload    : List Byte
  stamp      : Stamp
  hold       : Nat
  posted     : Nat
  deriving DecidableEq, Repr

/-- A delivered copy: the message and its delivery frame stamp (R112). -/
structure Copy where
  msg       : Message
  delivered : Stamp
  deriving DecidableEq, Repr

/-- A station's two transmit queues, oldest record first (R105). -/
structure TxQueues where
  urgent : List Message
  normal : List Message
  deriving DecidableEq, Repr

/-- The transfer in flight (spec/08, head). The destinations are the stations that hold a reservation for it. -/
structure Transfer where
  msg       : Message
  dests     : List Station
  remaining : Nat
  deriving DecidableEq, Repr

/-- Byte budget and hold limit (R136). -/
structure LaneSettings where
  budget    : Nat
  holdLimit : Nat
  deriving DecidableEq, Repr

/-- How far the lane is in its work at the present boundary (R120; log entry 7). -/
inductive LanePhase where
  /-- The transfer step comes next. -/
  | transferStep
  /-- The arbitration comes next. -/
  | arbitration
  /-- The hold count comes next; `blocked` are the heads that the arbitration found blocked for room (R123). -/
  | holdCount (blocked : List (Station × MsgClass))
  deriving DecidableEq, Repr

/-- The message lane (spec/08, head table; R105; R112). -/
structure Lane where
  tx         : PerStation TxQueues
  rx         : PerStation (List Copy)
  transfer   : Option Transfer
  pointer    : Station
  deferred   : Option Station
  idle       : Bool
  settings   : LaneSettings
  pending    : Option LaneSettings
  nextPosted : Nat
  phase      : LanePhase
  deriving DecidableEq, Repr

/-! ## Acknowledgement table (spec/09) -/

/-- State of an acknowledgement entry; frames remaining and delivery stamp are present in DELIVERED only (R138). -/
inductive AckState where
  | queued | inFlight
  | delivered (remaining : Nat) (stamp : Stamp)
  deriving DecidableEq, Repr

/-- An acknowledgement entry (R138). -/
structure AckEntry where
  seq     : Byte
  tag     : Byte
  dest    : Station
  timeout : Nat
  state   : AckState
  deriving DecidableEq, Repr

/-! ## Event queues (spec/10) -/

/-- Reasons of UNDELIVERABLE and UNACKED (R169). -/
inductive Reason where
  | peerGone | holdExpired | timeout
  deriving DecidableEq, Repr

/-- The ordinary kinds with their detail fields (spec/10, section 10.2). -/
inductive Event where
  | changeDone (id : Nat) (kind : EntryKind) (slot : Nat) (result : ChangeResult)
  | slotLost (slot : Nat)
  | slotVacated (slot : Nat)
  | producerGone (slot : Nat) (departed : Station)
  | ringLevel (count : Nat)
  | ringDropping
  | messageArrived (source : Station) (cls : MsgClass) (tag : Byte)
  | sent (tag seq : Byte)
  | undeliverable (tag seq : Byte) (reason : Reason)
  | acked (seq tag : Byte)
  | unacked (seq tag : Byte) (reason : Reason)
  | stationChanged (station : Station) (state : StationState) (cause : Cause)
  | coordinatorChanged (holder : Option Station)
  | timing (period : Nat) (mode : TimingMode) (ref : RefState)
  | leaseLow (left : Nat)
  deriving DecidableEq, Repr

/-- An ordinary record (R149). -/
structure EventRecord where
  stamp : Stamp
  event : Event
  deriving DecidableEq, Repr

/-- The lost-events record (R149, R152). -/
structure LostEvents where
  stamp : Stamp
  count : Nat
  deriving DecidableEq, Repr

/-- An event queue, head first, with the lost-events record that is always last, and the mask (R149). -/
structure EventQueue where
  records : List EventRecord
  lost    : Option LostEvents
  mask    : BitVec 15
  deriving DecidableEq, Repr

/-! ## Station ports (spec/11) -/

/-- Framing phase of a port (spec/11, head table). -/
inductive Phase where
  | idle | code | length | operands | check | response | trailing | overrun
  deriving DecidableEq, Repr

/-- The status codes (R168). -/
inductive Status where
  | ok | accepted | empty | late
  | badCheck | badRequest | badLength | badOperand
  | notJoined | lapsed | leaving | notCoordinator | held | nameTaken | badToken
  | slotHeld | notOwner | self | limit | listFull | quota | already | notSubscribed | noEntry
  | queueFull | noPeer | tableFull
  deriving DecidableEq, Repr

/-- What a block answers: the status and the result bytes (R165). -/
structure Reply where
  status  : Status
  results : List Byte
  deriving DecidableEq, Repr

/-- The response a port holds: status, length, results and check byte, and the position of the bit that SDO presents,
counted from the first bit of the status byte (R165). -/
structure Response where
  status   : Byte
  length   : Byte
  results  : List Byte
  check    : Byte
  position : Nat
  deriving DecidableEq, Repr

/-- A station port (spec/11, head table). -/
structure Port where
  phase    : Phase
  /-- Bits held of the byte in progress, the first received first. -/
  bits     : List Bool
  code     : Byte
  length   : Byte
  /-- Operand bytes kept: the first 66 received. -/
  operands : List Byte
  /-- Operand bytes received. -/
  opCount  : Nat
  check    : Byte
  response : Option Response
  /-- SEL# has been seen high since the reset (R160). -/
  seenHigh : Bool
  /-- The level of the input SEL#. -/
  selHigh  : Bool
  deriving DecidableEq, Repr

/-! ## The hub -/

/-- The whole state. -/
structure State where
  timer    : Timer
  registry : Registry
  /-- The active map, slot 0 first: 48 entries (R38). -/
  slotMap  : List SlotEntry
  /-- The change list in list order (R53). -/
  changes  : List Change
  /-- The exchange's slots, slot 0 first: 48 (R76). -/
  slots    : List SlotState
  rings    : PerStation Ring
  lane     : Lane
  acks     : PerStation (List AckEntry)
  events   : PerStation EventQueue
  ports    : PerStation Port
  /-- The works of the last boundary that are not yet taken (log entry 3). -/
  due      : List Work
  /-- The TIMING events of the last boundary that were raised to each station and have not reached its event queue, in order
  (R15, R17; log entry 24). -/
  timings  : PerStation (List Event)
  /-- The commands that wait, the front one first. -/
  pending  : List Instr
  deriving DecidableEq, Repr

/-- The hub stops nowhere (INVENTORY, "Faults"): every refusal of the spec is a response, so no fault is ever raised and
there is none to name. Safe: nothing stops a run. -/
inductive Fault where
  deriving DecidableEq, Repr

/-- Why a command has no meaning in the model. -/
inductive Refusal where
  /-- Raised by exec's arm of a row that has no meaning yet. Safe: the run stops, nothing false is concluded. No arm of
  this model raises it. -/
  | notModelled (mnemonic : String)
  deriving DecidableEq, Repr

/-! ## After a hub reset -/

/-- The same value for all four. -/
def PerStation.all {α : Type} (a : α) : PerStation α := ⟨a, a, a, a⟩

/-- The timer after a reset (R4 and spec/01, head table). -/
def resetTimer : Timer :=
  { period := 1000, mode := .free, refState := .off, frame := 0, goodCount := 0, faultCount := 0, lastInterval := 0,
    prevEdge := none, anchor := 0, pendingTiming := none, lastBoundary := 0, now := 0, fsync := false }

/-- A station record after a reset (R18). -/
def resetStation : StationRec :=
  { state := .absent, name := 0, leaseCounter := 0, token := 0, leasePeriod := 64, cause := .none, seqCounter := 0 }

/-- An entry of the active map after a reset (R42). -/
def emptyEntry : SlotEntry := { producer := none, consumers := [] }

/-- A slot of the exchange after a reset (R77). -/
def resetSlot : SlotState :=
  { buffer := 0, written := false, delivered := none, age := 0, fresh := false, stamp := 0 }

/-- A stream ring after a reset or a departure (R92, R102). -/
def emptyRing : Ring := { entries := [], gap := 0, watermark := 48 }

/-- The lane after a reset (R107, R119). -/
def resetLane : Lane :=
  { tx := PerStation.all { urgent := [], normal := [] }, rx := PerStation.all [], transfer := none, pointer := .s4,
    deferred := none, idle := true, settings := { budget := 16, holdLimit := 32 }, pending := none, nextPosted := 0,
    phase := .transferStep }

/-- An event queue after a reset or a departure (R150, R157). -/
def emptyEvents : EventQueue := { records := [], lost := none, mask := 0 }

/-- A port after a reset, with SEL# at the given level (R160; log entries 9, 10). -/
def resetPort (selHigh : Bool) : Port :=
  { phase := .idle, bits := [], code := 0, length := 0, operands := [], opCount := 0, check := 0, response := none,
    seenHigh := false, selHigh := selHigh }

/-- The machine right after a power-on reset. -/
def State.reset : State :=
  { timer := resetTimer
    registry := { stations := PerStation.all resetStation, coordinator := none, leaseSetting := 64,
                  resetCause := .powerOn }
    slotMap := List.replicate Config.slotCount emptyEntry
    changes := []
    slots := List.replicate Config.slotCount resetSlot
    rings := PerStation.all emptyRing
    lane := resetLane
    acks := PerStation.all []
    events := PerStation.all emptyEvents
    ports := PerStation.all (resetPort true)
    due := []
    timings := PerStation.all []
    pending := [] }

end Sys2Proof.Machine
end

