-- ==== Sys2Proof/Machine/Ops.lean ====
section
/-! DEFINITION. The named operations that every block uses: the four stations, the block updates of State, the frame
number as each block sees it, the raising of event records (R149 to R153), and the bits and check byte of the link
(R159, R162). -/

namespace Sys2Proof

/-- Stations are numbered 1 to 4 (00_scope, section 6). -/
def Station.number : Station → Nat
  | .s1 => 1 | .s2 => 2 | .s3 => 3 | .s4 => 4

/-- The station of a number from 1 to 4 (R169). -/
def Station.ofNumber : Nat → Option Station
  | 1 => some .s1 | 2 => some .s2 | 3 => some .s3 | 4 => some .s4 | _ => none

/-- The next station in the cyclic search: after 4 it goes to 1 (R125). -/
def Station.next : Station → Station
  | .s1 => .s2 | .s2 => .s3 | .s3 => .s4 | .s4 => .s1

/-- The stations in station order. -/
def stations : List Station := [.s1, .s2, .s3, .s4]

namespace Machine

/-! ## Four of a kind -/

def PerStation.get {α : Type} (v : PerStation α) : Station → α
  | .s1 => v.at1 | .s2 => v.at2 | .s3 => v.at3 | .s4 => v.at4

def PerStation.set {α : Type} (v : PerStation α) (n : Station) (a : α) : PerStation α :=
  match n with
  | .s1 => { v with at1 := a }
  | .s2 => { v with at2 := a }
  | .s3 => { v with at3 := a }
  | .s4 => { v with at4 := a }

/-- The four values changed alike. -/
def PerStation.map {α : Type} (v : PerStation α) (f : Station → α → α) : PerStation α :=
  ⟨f .s1 v.at1, f .s2 v.at2, f .s3 v.at3, f .s4 v.at4⟩

/-! ## Updates of State, one for each block -/

def State.setTimer (s : State) (t : Timer) : State := { s with timer := t }
def State.setRegistry (s : State) (r : Registry) : State := { s with registry := r }
def State.setSlotMap (s : State) (m : List SlotEntry) : State := { s with slotMap := m }
def State.setChanges (s : State) (c : List Change) : State := { s with changes := c }
def State.setSlots (s : State) (l : List SlotState) : State := { s with slots := l }
def State.setRing (s : State) (n : Station) (r : Ring) : State := { s with rings := s.rings.set n r }
def State.setLane (s : State) (l : Lane) : State := { s with lane := l }
def State.setAcks (s : State) (a : PerStation (List AckEntry)) : State := { s with acks := a }
def State.setQueue (s : State) (n : Station) (q : EventQueue) : State := { s with events := s.events.set n q }
def State.setPort (s : State) (n : Station) (q : Port) : State := { s with ports := s.ports.set n q }
def State.setDue (s : State) (d : List Work) : State := { s with due := d }
def State.setTimings (s : State) (v : PerStation (List Event)) : State := { s with timings := v }

/-- The record of station n. -/
def State.station (s : State) (n : Station) : StationRec := s.registry.stations.get n

def State.setStation (s : State) (n : Station) (r : StationRec) : State :=
  s.setRegistry { s.registry with stations := s.registry.stations.set n r }

def State.setCoordinator (s : State) (c : Option Station) : State := s.setRegistry { s.registry with coordinator := c }

/-- Station n is JOINED. -/
def State.joined (s : State) (n : Station) : Bool := (s.station n).state == .joined

/-- Station n is JOINED or LEAVING. -/
def State.present (s : State) (n : Station) : Bool :=
  (s.station n).state == .joined || (s.station n).state == .leaving

/-! ## Frame numbers and stamps -/

/-- The frame stamp of a frame number: its low 16 bits. -/
def stampOf (f : FrameNumber) : Stamp := f.setWidth 16

/-- Frames remaining to the next epoch boundary (R3). -/
def framesToEpoch (f : FrameNumber) : Nat := Config.epochLength - f.toNat % Config.epochLength

/-- The frame number as the block of work `w` has it: the allocator, the exchange, the lane and the acknowledgement table
whose work of the last boundary is still due have not yet taken that boundary, so a request they take comes before it
(R52, R65, R80, R146; log entry 6). The registry's records carry the frame number in force, `State.stamp`. -/
def State.frameAt (s : State) (w : Work) : FrameNumber := if w ∈ s.due then s.timer.frame - 1 else s.timer.frame

/-- The stamp as the block of work `w` has it. -/
def State.stampAt (s : State) (w : Work) : Stamp := stampOf (s.frameAt w)

/-- The stamp of the frame number in force: that of the boundary being taken, and of a change at the registry (R21, R35). -/
def State.stamp (s : State) : Stamp := stampOf s.timer.frame

/-- A work of the boundary that is not due any longer. -/
def State.dropWork (s : State) (w : Work) : State := s.setDue (s.due.erase w)

/-! ## The works of a boundary -/

/-- The works of a boundary: the arrival of the timer's own TIMING (R17), every block that R2 names, in that order, and at an
epoch boundary the commit and the examination of LEAVING (R41, R31). The order is the model's default (log entry 4). -/
def boundaryWorks (epoch : Bool) : List Work :=
  [.timing, .lease .s1, .lease .s2, .lease .s3, .lease .s4, .latch, .lane, .ack] ++
    (if epoch then [.commit, .leaving .s1, .leaving .s2, .leaving .s3, .leaving .s4] else [])

/-- An epoch boundary that a LEAVE taken now comes before: the commit and every work of the registry are still due, so the
examination of this boundary includes the station (R31, R43; log entry 6). -/
def State.leavesBeforeEpoch (s : State) : Bool :=
  [Work.lease .s1, .lease .s2, .lease .s3, .lease .s4, .commit, .leaving .s1, .leaving .s2, .leaving .s3,
    .leaving .s4].all (fun w => s.due.contains w)

/-- What a LEAVE of station n does to the examination of the boundary: one that it does not come before passes the station
by (R31, R43). -/
def State.passExamination (s : State) (n : Station) : State :=
  if s.leavesBeforeEpoch then s else s.dropWork (.leaving n)

/-! ## Raising records (R151, R152) -/

/-- A record appended to a queue: as an ordinary record, as the first lost one, or counted (R152). -/
def EventQueue.append (q : EventQueue) (r : EventRecord) : EventQueue :=
  match q.lost with
  | some l => { q with lost := some { l with count := min Config.saturation (l.count + 1) } }
  | none =>
    if q.records.length < Config.ordinaryCapacity then { q with records := q.records ++ [r] }
    else { q with lost := some { stamp := r.stamp, count := 1 } }

/-- The record count, with the lost-events record counted (R149). -/
def EventQueue.count (q : EventQueue) : Nat := q.records.length + (if q.lost.isSome then 1 else 0)

/-- One record raised to one station: appended in JOINED and LEAVING, discarded in ABSENT and LAPSED (R151). -/
def State.raise (s : State) (n : Station) (stamp : Stamp) (e : Event) : State :=
  if s.present n then s.setQueue n ((s.events.get n).append { stamp := stamp, event := e }) else s

/-- Records of one event raised in order, all with one stamp (R153). -/
def State.raiseAll (s : State) (stamp : Stamp) (notices : List (Station × Event)) : State :=
  notices.foldl (fun t x => t.raise x.1 stamp x.2) s

/-- The JOINED stations in station order. -/
def State.joinedStations (s : State) : List Station := stations.filter s.joined

/-- A record raised to every JOINED station (R17, R35). -/
def State.raiseToJoined (s : State) (stamp : Stamp) (e : Event) : State :=
  s.raiseAll stamp (s.joinedStations.map (fun n => (n, e)))

/-- The event queue of station n emptied, its mask 0, and with it the records raised to n that have yet to reach it (R157). -/
def State.emptyQueue (s : State) (n : Station) : State :=
  (s.setQueue n emptyEvents).setTimings (s.timings.set n [])

/-- A record raised to every JOINED station but one (R21). -/
def State.raiseToOthers (s : State) (n : Station) (stamp : Stamp) (e : Event) : State :=
  s.raiseAll stamp ((s.joinedStations.filter (· ≠ n)).map (fun m => (m, e)))

/-! ## Lists by index -/

/-- The entry of slot k in the active map; a slot outside 0 to 47 has none. -/
def State.entry (s : State) (k : Nat) : SlotEntry := s.slotMap.getD k emptyEntry

/-- The exchange's state of slot k. -/
def State.slot (s : State) (k : Nat) : SlotState := s.slots.getD k resetSlot

/-- The slots in slot order. -/
def slotNumbers : List Nat := List.range Config.slotCount

/-! ## Bits and the check byte of the link -/

/-- The bits of a byte, most significant first (R159). -/
def byteBits (b : Byte) : List Bool :=
  [b.getLsbD 7, b.getLsbD 6, b.getLsbD 5, b.getLsbD 4, b.getLsbD 3, b.getLsbD 2, b.getLsbD 1, b.getLsbD 0]

/-- The bits of a list of bytes in link order. -/
def bytesBits (l : List Byte) : List Bool := l.flatMap byteBits

/-- The byte of bits received, most significant first. -/
def byteOfBits (l : List Bool) : Byte := l.foldl (fun a b => (a <<< 1) ||| (if b then 1 else 0)) 0

/-- One bit taken into the check register (R162). -/
def crcBit (reg : Byte) (bit : Bool) : Byte :=
  if (reg.getLsbD 7 != bit) then (reg <<< 1) ^^^ Config.crcPolynomial else reg <<< 1

/-- One byte taken into the check register, most significant bit first (R162). -/
def crcByte (reg : Byte) (b : Byte) : Byte := (byteBits b).foldl crcBit reg

/-- The check byte over a list of bytes (R162). -/
def crc (l : List Byte) : Byte := l.foldl crcByte 0

end Machine
end Sys2Proof
end

