-- ==== Sys2Proof/Machine/Operands.lean ====
section
/-! DEFINITION. Everything that has a form on the link: the request codes and lengths (R170), the codes of named values
(R168, R169), operands read from bytes and results written to bytes, most significant byte first (R159, R170, R171). -/

namespace Sys2Proof

/-- The request codes (R170). -/
def Request.code : Request → Byte
  | .join => 0x01 | .leave => 0x02 | .detach => 0x03 | .renew => 0x04 | .readStatus => 0x05 | .readFrame => 0x06
  | .readIdentity => 0x07 | .claimCoordinator => 0x08 | .resign => 0x09 | .setTiming => 0x0A | .setLane => 0x0B
  | .setLease => 0x0C | .evict => 0x0D | .forceRelease => 0x0E
  | .claimSlot => 0x10 | .releaseSlot => 0x11 | .subscribe => 0x12 | .unsubscribe => 0x13 | .withdraw => 0x14
  | .listChanges => 0x15 | .readMap => 0x16
  | .publish => 0x20 | .readSlot => 0x21 | .drainRing => 0x22 | .setWatermark => 0x23
  | .post => 0x30 | .cancel => 0x31 | .takeMessage => 0x32 | .peekMessage => 0x33 | .ack => 0x34 | .queueStatus => 0x35
  | .takeEvent => 0x38 | .setMask => 0x39

/-- The requests of the table, in the table's order (R170). -/
def Request.all : List Request :=
  [.join, .leave, .detach, .renew, .readStatus, .readFrame, .readIdentity, .claimCoordinator, .resign, .setTiming,
   .setLane, .setLease, .evict, .forceRelease, .claimSlot, .releaseSlot, .subscribe, .unsubscribe, .withdraw,
   .listChanges, .readMap, .publish, .readSlot, .drainRing, .setWatermark, .post, .cancel, .takeMessage, .peekMessage,
   .ack, .queueStatus, .takeEvent, .setMask]

/-- The request of a code, if the code is in the table (R164 step 2). -/
def Request.ofCode (c : Byte) : Option Request := Request.all.find? (fun r => r.code == c)

/-- The length byte that step 3 of R164 accepts (R170). -/
def Request.lengthOk (r : Request) (n : Nat) : Bool :=
  match r with
  | .join => n == 4
  | .setTiming => n == 3
  | .setLane | .subscribe | .ack | .setMask => n == 2
  | .renew | .setLease | .evict | .forceRelease | .claimSlot | .releaseSlot | .unsubscribe | .withdraw | .readMap
  | .readSlot | .drainRing | .setWatermark | .cancel => n == 1
  | .publish => 3 ≤ n && n ≤ 24 && n % 3 == 0
  | .post => 7 ≤ n && n ≤ 66
  | .leave | .detach | .readStatus | .readFrame | .readIdentity | .claimCoordinator | .resign | .listChanges
  | .takeMessage | .peekMessage | .queueStatus | .takeEvent => n == 0

namespace Machine

/-! ## Numbers to bytes and back -/

/-- A count as one byte. -/
def byte (n : Nat) : Byte := BitVec.ofNat 8 n

/-- A 16-bit value, most significant byte first (R159). -/
def bytes16 (w : BitVec 16) : List Byte := [(w >>> 8).setWidth 8, w.setWidth 8]

/-- A 32-bit value, most significant byte first (R159). -/
def bytes32 (w : BitVec 32) : List Byte :=
  [(w >>> 24).setWidth 8, (w >>> 16).setWidth 8, (w >>> 8).setWidth 8, w.setWidth 8]

/-- Two bytes as a 16-bit value. -/
def word16 (hi lo : Byte) : BitVec 16 := (hi.setWidth 16 <<< 8) ||| lo.setWidth 16

/-- Operand byte i; the length check of R164 guarantees that it is there. -/
def operand (ops : List Byte) (i : Nat) : Byte := ops.getD i 0

/-- A 16-bit operand at byte i. -/
def operand16 (ops : List Byte) (i : Nat) : BitVec 16 := word16 (operand ops i) (operand ops (i + 1))

/-- A 32-bit operand at byte i. -/
def operand32 (ops : List Byte) (i : Nat) : BitVec 32 :=
  ((operand16 ops i).setWidth 32 <<< 16) ||| (operand16 ops (i + 2)).setWidth 32

/-- Indicators are 00h for no and 01h for yes (R169). -/
def indicator (b : Bool) : Byte := if b then 1 else 0

/-! ## Codes of named values (R168, R169) -/

def Status.code : Status → Byte
  | .ok => 0x00 | .accepted => 0x01 | .empty => 0x02 | .late => 0x03
  | .badCheck => 0x10 | .badRequest => 0x11 | .badLength => 0x12 | .badOperand => 0x13
  | .notJoined => 0x20 | .lapsed => 0x21 | .leaving => 0x22 | .notCoordinator => 0x23 | .held => 0x24
  | .nameTaken => 0x25 | .badToken => 0x26
  | .slotHeld => 0x30 | .notOwner => 0x31 | .self => 0x32 | .limit => 0x33 | .listFull => 0x34 | .quota => 0x35
  | .already => 0x36 | .notSubscribed => 0x37 | .noEntry => 0x38
  | .queueFull => 0x40 | .noPeer => 0x41 | .tableFull => 0x42

def stationByte (n : Station) : Byte := byte n.number

/-- Station, or 00h for none. -/
def stationOrNone : Option Station → Byte
  | none => 0
  | some n => stationByte n

def StationState.code : StationState → Byte
  | .absent => 0 | .joined => 1 | .leaving => 2 | .lapsed => 3

def Cause.code : Cause → Byte
  | .none => 0 | .left => 1 | .detached => 2 | .leaseExpired => 3 | .evicted => 4

def resetCauseCode : ResetCause → Byte
  | .powerOn => 0 | .pin => 1

def TimingMode.code : TimingMode → Byte
  | .free => 0 | .follow => 1

def TimingMode.ofCode (b : Byte) : Option TimingMode :=
  if b = 0 then some .free else if b = 1 then some .follow else none

def RefState.code : RefState → Byte
  | .off => 0 | .seeking => 1 | .locked => 2 | .lost => 3

def LogMode.code : LogMode → Byte
  | .none => 0 | .every => 1 | .fresh => 2

def LogMode.ofCode (b : Byte) : Option LogMode :=
  if b = 0 then some .none else if b = 1 then some .every else if b = 2 then some .fresh else Option.none

def EntryKind.code : EntryKind → Byte
  | .claim => 0 | .release => 1 | .subscribe => 2 | .unsubscribe => 3 | .forceRelease => 4

/-- The kind that records report. -/
def ChangeKind.entryKind : ChangeKind → EntryKind
  | .claim => .claim | .release => .release | .subscribe _ => .subscribe | .unsubscribe => .unsubscribe
  | .forceRelease => .forceRelease

/-- The logging mode LIST CHANGES reports: NONE for kinds other than SUBSCRIBE (R67). -/
def ChangeKind.mode : ChangeKind → LogMode
  | .subscribe m => m
  | _ => .none

/-- An entry's result is the status code of the same name (R169). -/
def ChangeResult.code : ChangeResult → Byte
  | .ok => 0x00 | .slotHeld => 0x30 | .notOwner => 0x31 | .self => 0x32 | .limit => 0x33 | .notSubscribed => 0x37
  | .noEntry => 0x38

def MsgClass.code : MsgClass → Byte
  | .normal => 0 | .urgent => 1

def MsgClass.ofCode (b : Byte) : Option MsgClass :=
  if b = 0 then some .normal else if b = 1 then some .urgent else none

def Reason.code : Reason → Byte
  | .peerGone => 1 | .holdExpired => 2 | .timeout => 3

/-- Role flags: bit 0 RELEASE_DUE, bit 1 ORPHANED (R169). Bits 2 to 7, which R169 leaves out, are 0 (DESIGN CHOICE, log
entry 27). -/
def roleFlags (releaseDue orphaned : Bool) : Byte := (if releaseDue then 1 else 0) ||| (if orphaned then 2 else 0)

/-- Slot flags of READ SLOT and the ring entry: bit 0 value present, bit 1 fresh (R169). Bits 2 to 7, which R169 leaves
out, are 0 (DESIGN CHOICE, log entry 27). -/
def slotFlags (value : Option Word) (fresh : Bool) : Byte :=
  (if value.isSome then 1 else 0) ||| (if fresh then 2 else 0)

/-! ## Event records (section 10.2, R171, R172) -/

/-- The kind of an ordinary record, 1 to 15. -/
def Event.kind : Event → Nat
  | .changeDone .. => 1 | .slotLost .. => 2 | .slotVacated .. => 3 | .producerGone .. => 4 | .ringLevel .. => 5
  | .ringDropping => 6 | .messageArrived .. => 7 | .sent .. => 8 | .undeliverable .. => 9 | .acked .. => 10
  | .unacked .. => 11 | .stationChanged .. => 12 | .coordinatorChanged .. => 13 | .timing .. => 14 | .leaseLow .. => 15

/-- The four detail bytes; unused ones are 00h (R171). -/
def Event.details : Event → List Byte
  | .changeDone id kind slot result => [byte id, kind.code, byte slot, result.code]
  | .slotLost slot => [byte slot, 0, 0, 0]
  | .slotVacated slot => [byte slot, 0, 0, 0]
  | .producerGone slot departed => [byte slot, stationByte departed, 0, 0]
  | .ringLevel count => [byte count, 0, 0, 0]
  | .ringDropping => [0, 0, 0, 0]
  | .messageArrived source cls tag => [stationByte source, cls.code, tag, 0]
  | .sent tag seq => [tag, seq, 0, 0]
  | .undeliverable tag seq reason => [tag, seq, reason.code, 0]
  | .acked seq tag => [seq, tag, 0, 0]
  | .unacked seq tag reason => [seq, tag, reason.code, 0]
  | .stationChanged station state cause => [stationByte station, state.code, cause.code, 0]
  | .coordinatorChanged holder => [stationOrNone holder, 0, 0, 0]
  | .timing period mode ref => bytes16 (BitVec.ofNat 16 period) ++ [mode.code, ref.code]
  | .leaseLow left => [byte left, 0, 0, 0]

/-- An ordinary record on the link. -/
def EventRecord.bytes (r : EventRecord) : List Byte := byte r.event.kind :: bytes16 r.stamp ++ r.event.details

/-- The lost-events record on the link: kind 16, the first lost record's stamp, the count (R172). -/
def LostEvents.bytes (l : LostEvents) : List Byte := 0x10 :: bytes16 l.stamp ++ [byte l.count, 0, 0, 0]

/-! ## Requests and responses -/

/-- A request frame with the right check byte (R161, R162). -/
def requestFrame (code : Byte) (operands : List Byte) : Frame :=
  { operands := operands, check := crc (code :: byte operands.length :: operands) }

/-- The bytes a station clocks in for a request (R161). -/
def frameBytes (code : Byte) (f : Frame) : List Byte :=
  code :: byte f.operands.length :: (f.operands ++ [f.check])

/-- The response of a reply, with its check byte, before its first bit is sent (R165, R162). -/
def respond (r : Reply) : Response :=
  { status := r.status.code, length := byte r.results.length, results := r.results,
    check := crc (r.status.code :: byte r.results.length :: r.results), position := 0 }

/-- The bits of a response in link order. -/
def responseBits (r : Response) : List Bool := bytesBits (r.status :: r.length :: (r.results ++ [r.check]))

/-- A refusal carries no results (R168). -/
def refuse (st : Status) : Reply := { status := st, results := [] }

end Machine
end Sys2Proof
end

