-- ==== Sys2Proof/Machine/Flags.lean ====
section
/-! DEFINITION. Flags and pins computed from State: live and orphaned roles (R40), places and reservations (R112), the
attention lines (R156) and the serial outputs (R159, R161, R165, R167). -/

namespace Sys2Proof.Machine

/-- A count that stops at 255 (00_scope, section 6). -/
def saturatingSucc (n : Nat) : Nat := if n < Config.saturation then n + 1 else Config.saturation

/-! ## Roles -/

/-- A producer role is live when ORPHANED is clear (R40). -/
def Producer.live (p : Producer) : Bool := !p.orphaned

/-- A consumer record is live when ORPHANED is clear (R40). -/
def Consumer.live (c : Consumer) : Bool := !c.orphaned

/-- Station n is the entry's producer, whatever the flags. -/
def SlotEntry.producedBy (e : SlotEntry) (n : Station) : Bool :=
  match e.producer with
  | some p => p.station == n
  | none => false

/-- Station n is the entry's producer with a live role (R78). -/
def SlotEntry.liveProducer (e : SlotEntry) (n : Station) : Bool :=
  match e.producer with
  | some p => p.station == n && p.live
  | none => false

/-- Station n holds a consumer record in the entry, whatever the flags. -/
def SlotEntry.consumedBy (e : SlotEntry) (n : Station) : Bool := e.consumers.any (fun c => c.station == n)

/-- Station n holds a live consumer record in the entry (R89). -/
def SlotEntry.liveConsumer (e : SlotEntry) (n : Station) : Bool :=
  e.consumers.any (fun c => c.station == n && c.live)

/-- The producer indicator of READ SLOT: NONE, LIVE, ORPHANED (R90, R169). -/
def SlotEntry.indicator (e : SlotEntry) : Byte :=
  match e.producer with
  | none => 0
  | some p => if p.live then 1 else 2

/-! ## Places of a receive queue -/

/-- The transfer in flight holds a reservation at station n (R126, R115). -/
def Lane.reservedAt (l : Lane) (n : Station) : Bool :=
  match l.transfer with
  | some t => t.dests.contains n
  | none => false

/-- Reserved places of station n: the one that the transfer in flight holds, if any (R112; log entry 15). -/
def Lane.reserved (l : Lane) (n : Station) : Nat := if l.reservedAt n then 1 else 0

/-- Station n's receive queue has a free place (R123). -/
def Lane.hasRoom (l : Lane) (n : Station) : Bool := (l.rx.get n).length + l.reserved n < Config.receivePlaces

/-- The transfer in flight is from station n. -/
def Lane.sending (l : Lane) (n : Station) : Bool :=
  match l.transfer with
  | some t => t.msg.source == n
  | none => false

/-- A transfer to or from station n is in flight (R30, R31). -/
def Lane.inFlightAt (l : Lane) (n : Station) : Bool := l.sending n || l.reservedAt n

/-! ## Pins -/

/-- The kind of a record is masked: bit k - 1 of the mask is set (R155). -/
def EventQueue.masked (q : EventQueue) (r : EventRecord) : Bool := q.mask.getLsbD (r.event.kind - 1)

/-- ATN# of station n is asserted (R156). -/
def State.attention (s : State) (n : Station) : Bool :=
  let q := s.events.get n
  q.lost.isSome || q.records.any (fun r => !q.masked r)

/-- What a port presents on SDO: none while it leaves SDO undriven (R159, R161, R165, R167). -/
def Port.sdo (q : Port) : Option Bool :=
  match q.phase with
  | .idle => none
  | .code | .length | .operands | .check | .trailing => some false
  | .overrun => some true
  | .response =>
    match q.response with
    | some r => some ((responseBits r).getD r.position false)
    | none => some false

end Sys2Proof.Machine
end

