-- ==== Sys2Proof/Machine/SlotMap.lean ====
section
/-! DEFINITION. The active map and the change list: marking and orphaning of roles, removal at the commit, the check and
application of a change, the projected map and the staging of an entry (R38 to R75). -/

namespace Sys2Proof.Machine

/-- The entry of slot k in a map. -/
def mapEntry (m : List SlotEntry) (k : Nat) : SlotEntry := m.getD k emptyEntry

/-- A station's producer count: the entries that name it as producer, whatever their flags (R39). -/
def producerCount (m : List SlotEntry) (n : Station) : Nat := (m.filter (fun e => e.producedBy n)).length

/-! ## Marking (R43) and orphaning (R44, R45) -/

/-- Every role of station n in the entry marked RELEASE_DUE, ORPHANED left as it is (R43). -/
def SlotEntry.markRelease (n : Station) (e : SlotEntry) : SlotEntry :=
  { producer := e.producer.map (fun p => if p.station = n then { p with releaseDue := true } else p)
    consumers := e.consumers.map (fun c => if c.station = n then { c with releaseDue := true } else c) }

/-- Every role of station n in the entry marked RELEASE_DUE and ORPHANED (R44). -/
def SlotEntry.orphan (n : Station) (e : SlotEntry) : SlotEntry :=
  { producer := e.producer.map (fun p => if p.station = n then { p with releaseDue := true, orphaned := true } else p)
    consumers := e.consumers.map
      (fun c => if c.station = n then { c with releaseDue := true, orphaned := true } else c) }

/-- The PRODUCER_GONE records of slot k when station n's roles in it are orphaned: one to each live consumer, in list
order, if the producer role is n's and was not yet orphaned (R44). -/
def goneNotices (n : Station) (k : Nat) (e : SlotEntry) : List (Station × Event) :=
  if e.liveProducer n then
    ((e.orphan n).consumers.filter (fun c => c.live)).map (fun c => (c.station, Event.producerGone k n))
  else []

/-- Marking at LEAVE (R43). -/
def State.markRoles (s : State) (n : Station) : State := s.setSlotMap (s.slotMap.map (SlotEntry.markRelease n))

/-- Orphaning at a departure or the end of LEAVING, with its PRODUCER_GONE records in slot order (R44, R45). -/
def State.orphanRoles (s : State) (n : Station) (stamp : Stamp) : State :=
  (s.setSlotMap (s.slotMap.map (SlotEntry.orphan n))).raiseAll stamp
    (s.slotMap.zipIdx.flatMap (fun x => goneNotices n x.2 x.1))

/-- The entries of station n leave the change list (R68). -/
def State.discardChanges (s : State) (n : Station) : State :=
  s.setChanges (s.changes.filter (fun c => c.origin ≠ some n))

/-- A station's quota count (R54). -/
def quotaCount (l : List Change) (n : Station) : Nat := (l.filter (fun c => c.origin = some n)).length

/-! ## Removal at the commit (R48) -/

/-- The producer role of the entry is marked RELEASE_DUE. -/
def SlotEntry.producerDue (e : SlotEntry) : Bool :=
  match e.producer with
  | some p => p.releaseDue
  | none => false

/-- The entry without its roles marked RELEASE_DUE (R48). -/
def SlotEntry.removeDue (e : SlotEntry) : SlotEntry :=
  { producer := if e.producerDue then none else e.producer
    consumers := e.consumers.filter (fun c => !c.releaseDue) }

/-- The SLOT_VACATED records of slot k for the consumers left in the entry (R49, R71, R72). -/
def vacatedNotices (k : Nat) (e : SlotEntry) : List (Station × Event) :=
  e.consumers.map (fun c => (c.station, Event.slotVacated k))

/-! ## A change against a map (R70 to R74) -/

/-- The result of a change against a map, its checks in the order of its rule. A FORCED entry is a FORCE_RELEASE; an
entry without origin of another kind is never made and is given NO_ENTRY. -/
def Change.check (c : Change) (m : List SlotEntry) : ChangeResult :=
  let e := mapEntry m c.slot
  match c.kind, c.origin with
  | .forceRelease, _ => if e.producer.isSome then .ok else .noEntry
  | _, none => .noEntry
  | .claim, some o =>
    if e.producer.isSome then .slotHeld
    else if e.consumedBy o then .self
    else if Config.producerLimit ≤ producerCount m o then .limit
    else .ok
  | .release, some o => if e.producedBy o then .ok else .notOwner
  | .subscribe _, some o =>
    if e.producedBy o then .self
    else if e.consumedBy o then .ok
    else if e.consumers.length < Config.consumerLimit then .ok
    else .limit
  | .unsubscribe, some o => if e.consumedBy o then .ok else .notSubscribed

/-- The entry after a change that is applied (R70 to R74). -/
def Change.applied (c : Change) (e : SlotEntry) : SlotEntry :=
  match c.kind, c.origin with
  | .claim, some o => { e with producer := some { station := o, releaseDue := false, orphaned := false } }
  | .release, _ => { e with producer := none }
  | .forceRelease, _ => { e with producer := none }
  | .subscribe mode, some o =>
    if e.consumedBy o then
      { e with consumers := e.consumers.map (fun c => if c.station = o then { c with mode := mode } else c) }
    else
      { e with consumers := e.consumers ++ [{ station := o, mode := mode, releaseDue := false, orphaned := false }] }
  | .unsubscribe, some o => { e with consumers := e.consumers.filter (fun c => c.station ≠ o) }
  | _, none => e

/-- The map after a change: changed if the change is applied, as it was if it fails (R69). -/
def Change.onMap (c : Change) (m : List SlotEntry) : List SlotEntry :=
  if c.check m = .ok then m.set c.slot (c.applied (mapEntry m c.slot)) else m

/-! ## The projected map (R56) -/

/-- The map after every change of a list, in list order. -/
def projectFrom (m : List SlotEntry) (l : List Change) : List SlotEntry := l.foldl (fun m c => c.onMap m) m

/-- The projected map: the removals, then the change list (R56). -/
def State.projected (s : State) : List SlotEntry := projectFrom (s.slotMap.map SlotEntry.removeDue) s.changes

/-- Each change of a list with the result it gives in the projection (R67). -/
def projectedResults : List SlotEntry → List Change → List (Change × ChangeResult)
  | _, [] => []
  | m, c :: l => (c, c.check m) :: projectedResults (c.onMap m) l

/-! ## Staging (R55, R57) -/

/-- The lowest id from 0 to 23 that no entry holds (R55). -/
def freeId (l : List Change) : Nat :=
  ((List.range Config.changeListLimit).find? (fun i => l.all (fun c => c.id ≠ i))).getD 0

/-- A new entry joins the end of the list with the next id and the stage stamp (R53, R57). -/
def State.stage (s : State) (origin : Option Station) (kind : ChangeKind) (slot : Nat) : State :=
  s.setChanges (s.changes ++
    [{ id := freeId s.changes, origin := origin, kind := kind, slot := slot, stamp := s.stampAt .commit }])

/-- Steps 3 and 4 of R57: the list is full, or the requester's quota is used up (step 4 not made for FORCED). -/
def State.stagingRefusal (s : State) (origin : Option Station) : Option Status :=
  if Config.changeListLimit ≤ s.changes.length then some .listFull
  else match origin with
    | some n => if Config.quotaLimit ≤ quotaCount s.changes n then some .quota else none
    | none => none

/-- An accepted staging request: the entry appended; id, slot and frames until application (R57). -/
def State.accept (s : State) (origin : Option Station) (kind : ChangeKind) (slot : Nat) : State × Reply :=
  (s.stage origin kind slot,
   { status := .accepted
     results := [byte (freeId s.changes), byte slot, byte (framesToEpoch (s.frameAt .commit))] })

end Sys2Proof.Machine
end

