-- ==== Sys2Proof/Machine/Exchange.lean ====
section
/-! DEFINITION. The slot exchange: changes of producer (R86, R87), the latch (R82 to R85), ring entries (R93 to R98), and
the epoch commit, which tells it of each change of producer (R41, R48, R49, R69 to R75). -/

namespace Sys2Proof.Machine

/-- Slot k of the exchange set to a value. -/
def State.setSlot (s : State) (k : Nat) (x : SlotState) : State := s.setSlots (s.slots.set k x)

/-- A slot told at the boundary of the given stamp that it has no producer (R86), or set up afresh for a new one (R87):
both leave NONE, age 0, fresh and written clear, buffer 0000h and this stamp. -/
def clearedSlot (stamp : Stamp) : SlotState := { resetSlot with stamp := stamp }

/-! ## The latch (R82 to R85) -/

/-- One slot latched at the boundary of the given stamp (R82 live, R83 orphaned, R84 none). Of the publish buffer these rules
give the written flag alone; the latched or discarded word stays in the buffer value, unwritten (DESIGN CHOICE, log entry
31). -/
def latchedSlot (e : SlotEntry) (stamp : Stamp) (x : SlotState) : SlotState :=
  match e.producer with
  | none => { x with delivered := none, age := 0, fresh := false, written := false }
  | some p =>
    if p.live && x.written then
      { x with delivered := some x.buffer, age := 0, fresh := true, stamp := stamp, written := false }
    else { x with age := saturatingSucc x.age, fresh := false, written := false }

/-- A live consumer record of the mode gives a ring entry for the slot as just latched (R93). -/
def logs (mode : LogMode) (e : SlotEntry) (x : SlotState) : Bool :=
  match mode, e.producer with
  | .none, _ => false
  | _, none => false
  | .every, some _ => true
  | .fresh, some p => p.live && x.fresh

/-- An entry appended to station n's ring or dropped, with RING_LEVEL or RING_DROPPING (R96, R98). The entry's gap count
is taken from the ring (R94). -/
def State.appendRing (s : State) (n : Station) (e : RingEntry) : State :=
  let r := s.rings.get n
  if r.entries.length < Config.ringCapacity then
    let s1 := s.setRing n { r with entries := r.entries ++ [{ e with gap := r.gap }], gap := 0 }
    if r.entries.length + 1 = r.watermark then s1.raise n e.stamp (.ringLevel r.watermark) else s1
  else
    let s1 := s.setRing n { r with gap := saturatingSucc r.gap }
    if r.gap = 0 then s1.raise n e.stamp .ringDropping else s1

/-- The ring entry of slot k as just latched (R94). -/
def ringEntryOf (k : Nat) (stamp : Stamp) (x : SlotState) : RingEntry :=
  { slot := k, stamp := stamp, value := x.delivered, fresh := x.fresh, gap := 0 }

/-- Slot k latched, then its ring entries made in the order of the consumer list (R85, R93). -/
def State.latchOne (s : State) (k : Nat) : State :=
  let e := s.entry k
  let x := latchedSlot e s.stamp (s.slot k)
  e.consumers.foldl
    (fun t c => if c.live && logs c.mode e x then t.appendRing c.station (ringEntryOf k s.stamp x) else t)
    (s.setSlot k x)

/-- The latch of a frame boundary: every slot in slot order (R85). -/
def State.latch (s : State) : State := slotNumbers.foldl (fun t k => t.latchOne k) s

/-! ## The epoch commit (R41) -/

/-- The removal step: roles marked RELEASE_DUE go, slots that lose their producer are cleared, and SLOT_VACATED is raised
to the consumers left, in slot order (R48, R49, R86). -/
def State.removeDueRoles (s : State) : State :=
  ((s.setSlotMap (s.slotMap.map SlotEntry.removeDue)).setSlots
    (s.slots.zipIdx.map (fun x => if (s.entry x.2).producerDue then clearedSlot s.stamp else x.1))).raiseAll s.stamp
    (s.slotMap.zipIdx.flatMap
      (fun x => if x.1.producerDue then vacatedNotices x.2 x.1.removeDue else []))

/-- The slots of the exchange after a change that is applied (R70 to R72, R86, R87). -/
def Change.onSlots (c : Change) (stamp : Stamp) (l : List SlotState) : List SlotState :=
  match c.kind with
  | .claim | .release | .forceRelease => l.set c.slot (clearedSlot stamp)
  | .subscribe _ | .unsubscribe => l

/-- The records an applied change raises before its CHANGE_DONE: SLOT_LOST to the former producer of a FORCE_RELEASE,
SLOT_VACATED to the slot's consumers (R71, R72). -/
def Change.notices (c : Change) (e : SlotEntry) : List (Station × Event) :=
  match c.kind with
  | .release => vacatedNotices c.slot e
  | .forceRelease =>
    (match e.producer with
      | some p => [(p.station, Event.slotLost c.slot)]
      | none => []) ++ vacatedNotices c.slot e
  | _ => []

/-- The station that CHANGE_DONE goes to: the origin, or the coordinator of the moment for a FORCED entry (R69, R75). -/
def State.changeOwner (s : State) (c : Change) : Option Station :=
  match c.origin with
  | some n => some n
  | none => s.registry.coordinator

/-- One change-list entry applied or failed, with its records (R69). -/
def State.commitChange (s : State) (c : Change) : State :=
  let r := c.check s.slotMap
  let done := (s.changeOwner c).toList.map (fun n => (n, Event.changeDone c.id c.kind.entryKind c.slot r))
  if r = .ok then
    ((s.setSlotMap (c.onMap s.slotMap)).setSlots (c.onSlots s.stamp s.slots)).raiseAll s.stamp
      (c.notices (s.entry c.slot) ++ done)
  else s.raiseAll s.stamp done

/-- The epoch commit: removals, then the change list in list order, which is then empty (R41, R48, R69). -/
def State.commit (s : State) : State :=
  let s1 := s.removeDueRoles
  (s1.changes.foldl (fun t c => t.commitChange c) s1).setChanges []

end Sys2Proof.Machine
end

