-- ==== Sys2Proof/Machine/Acks.lean ====
section
/-! DEFINITION. The acknowledgement table: the lane's notices (R140 to R143), the countdown (R144) and departures (R147,
R148). -/

namespace Sys2Proof.Machine

/-- Station n's list changed. -/
def State.setAckList (s : State) (n : Station) (l : List AckEntry) : State := s.setAcks (s.acks.set n l)

/-- An acknowledgement entry follows the message: it asked for acknowledgement (R103, R140). A notice that then finds no
entry changes nothing (R138). -/
def Message.followed (m : Message) : Bool := m.ackTimeout.isSome

/-- An entry is created in state QUEUED (R140). -/
def State.ackCreate (s : State) (n : Station) (seq tag : Byte) (dest : Station) (timeout : Nat) : State :=
  s.setAckList n (s.acks.get n ++ [{ seq := seq, tag := tag, dest := dest, timeout := timeout, state := .queued }])

/-- The notice of a grant: QUEUED becomes IN_FLIGHT (R141). -/
def State.ackGranted (s : State) (m : Message) : State :=
  if m.followed then
    s.setAckList m.source ((s.acks.get m.source).map
      (fun a => if a.seq = m.seq ∧ a.state = .queued then { a with state := .inFlight } else a))
  else s

/-- The notice of a delivery: IN_FLIGHT becomes DELIVERED with the timeout as frames remaining (R142). -/
def State.ackDelivered (s : State) (m : Message) : State :=
  if m.followed then
    s.setAckList m.source ((s.acks.get m.source).map
      (fun a => if a.seq = m.seq ∧ a.state = .inFlight then { a with state := .delivered a.timeout s.stamp } else a))
  else s

/-- The notice that the message left the lane undelivered: the entry is removed without an event (R143). -/
def State.ackGone (s : State) (m : Message) : State :=
  if m.followed then s.setAckList m.source ((s.acks.get m.source).filter (fun a => a.seq ≠ m.seq)) else s

/-! ## The countdown (R144) -/

/-- One entry lowered at the boundary of the given stamp. -/
def AckEntry.lowered (stamp : Stamp) (a : AckEntry) : AckEntry :=
  match a.state with
  | .delivered remaining d => if d ≠ stamp then { a with state := .delivered (remaining - 1) d } else a
  | _ => a

/-- The entry reaches 0 at the boundary of the given stamp. -/
def AckEntry.expires (stamp : Stamp) (a : AckEntry) : Bool :=
  match a.state with
  | .delivered remaining d => d ≠ stamp && remaining ≤ 1
  | _ => false

/-- The countdown of a frame boundary: entries lowered, those that reach 0 removed with UNACKED (TIMEOUT), senders in
station order, entries in list order (R144). -/
def State.ackCountdown (s : State) : State :=
  (s.setAcks (s.acks.map
      (fun _ l => (l.filter (fun a => !a.expires s.stamp)).map (AckEntry.lowered s.stamp)))).raiseAll s.stamp
    (stations.flatMap (fun n =>
      ((s.acks.get n).filter (fun a => a.expires s.stamp)).map (fun a => (n, Event.unacked a.seq a.tag .timeout))))

/-- Some entry reaches 0 at the boundary being taken. -/
def State.ackExpiryDue (s : State) : Bool :=
  stations.any (fun n => (s.acks.get n).any (fun a => a.expires s.stamp))

/-! ## Departures (R147, R148) -/

/-- The entry is DELIVERED and its destination is x. -/
def AckEntry.awaits (x : Station) (a : AckEntry) : Bool :=
  match a.state with
  | .delivered _ _ => a.dest == x
  | _ => false

/-- Other stations' DELIVERED entries that name x are resolved with UNACKED (PEER_GONE) (R147). -/
def State.ackResolve (s : State) (x : Station) (stamp : Stamp) : State :=
  (s.setAcks (s.acks.map (fun n l => if n = x then l else l.filter (fun a => !a.awaits x)))).raiseAll stamp
    ((stations.filter (· ≠ x)).flatMap (fun n =>
      ((s.acks.get n).filter (fun a => a.awaits x)).map (fun a => (n, Event.unacked a.seq a.tag .peerGone))))

/-- Every entry of the station's own list goes, without an event (R148). -/
def State.ackClear (s : State) (n : Station) : State := s.setAckList n []

end Sys2Proof.Machine
end

