-- ==== Sys2Proof/Machine/Lane.lean ====
section
/-! DEFINITION. The message lane: eligibility and arbitration (R123 to R125), grant (R126), transfer and delivery (R121,
R122), hold counts (R128, R129), the end of a transfer before delivery (R131 to R134), returns (R116), and the lane's
work at a frame boundary, stage by stage (R120). -/

namespace Sys2Proof.Machine

/-! ## Queues -/

/-- The transmit queue of a class. -/
def Lane.queue (l : Lane) (n : Station) (cls : MsgClass) : List Message :=
  match cls with
  | .urgent => (l.tx.get n).urgent
  | .normal => (l.tx.get n).normal

/-- The lane with a transmit queue replaced. -/
def Lane.setTxQueue (l : Lane) (n : Station) (cls : MsgClass) (q : List Message) : Lane :=
  match cls with
  | .urgent => { l with tx := l.tx.set n { l.tx.get n with urgent := q } }
  | .normal => { l with tx := l.tx.set n { l.tx.get n with normal := q } }

/-- The capacity of a class queue (R105). -/
def classCapacity : MsgClass → Nat
  | .urgent => Config.urgentCapacity
  | .normal => Config.normalCapacity

/-- A message's lane length (R103). -/
def Message.laneLength (m : Message) : Nat := m.payload.length + Config.laneOverhead

/-- A message put into post order among others (R105). -/
def insertPosted (m : Message) : List Message → List Message
  | [] => [m]
  | x :: l => if m.posted ≤ x.posted then m :: x :: l else x :: insertPosted m l

/-- Messages in post order, the oldest first. -/
def inPostOrder (l : List Message) : List Message := l.foldr insertPosted []

/-- The queued messages of station n in post order across both queues (R116). -/
def Lane.queued (l : Lane) (n : Station) : List Message := inPostOrder (l.queue n .urgent ++ l.queue n .normal)

/-- The messages of station n that have not been delivered, in post order: both queues and the transfer in flight
(R110). -/
def Lane.undelivered (l : Lane) (n : Station) : List Message :=
  inPostOrder (l.queue n .urgent ++ l.queue n .normal ++
    (match l.transfer with
      | some t => if t.msg.source = n then [t.msg] else []
      | none => []))

/-! ## Arbitration (R123 to R125) -/

/-- The condition on destinations (R123). -/
def State.destinationsReady (s : State) (m : Message) : Bool :=
  match m.dest with
  | some d => s.present d && s.lane.hasRoom d
  | none => stations.all (fun n => n == m.source || !s.joined n || s.lane.hasRoom n)

/-- The condition of deferral (R124). -/
def Lane.deferralPasses (l : Lane) (n : Station) (cls : MsgClass) : Bool :=
  match cls with
  | .urgent => true
  | .normal => l.deferred ≠ some n || l.idle

/-- The head of the queue is eligible (R123). -/
def State.eligible (s : State) (n : Station) (cls : MsgClass) : Bool :=
  match (s.lane.queue n cls).head? with
  | some m => s.destinationsReady m && s.lane.deferralPasses n cls
  | none => false

/-- The head of the queue is blocked for room (R123). -/
def State.blockedForRoom (s : State) (n : Station) (cls : MsgClass) : Bool :=
  match (s.lane.queue n cls).head? with
  | some m => !s.destinationsReady m && s.lane.deferralPasses n cls
  | none => false

/-- The heads blocked for room, stations in station order, URGENT before NORMAL (R128). -/
def State.blockedHeads (s : State) : List (Station × MsgClass) :=
  (stations.flatMap (fun n => [(n, MsgClass.urgent), (n, MsgClass.normal)])).filter
    (fun x => s.blockedForRoom x.1 x.2)

/-- The stations in the cyclic order of the search (R125). -/
def Lane.searchOrder (l : Lane) : List Station :=
  [l.pointer.next, l.pointer.next.next, l.pointer.next.next.next, l.pointer]

/-- The head that the arbitration grants (R125). -/
def State.winner (s : State) : Option (Station × MsgClass) :=
  match s.lane.searchOrder.find? (fun n => s.eligible n .urgent) with
  | some n => some (n, .urgent)
  | none => (s.lane.searchOrder.find? (fun n => s.eligible n .normal)).map (fun n => (n, .normal))

/-- The stations at which a granted message reserves a place, in station order (R126). -/
def State.destinationsOf (s : State) (m : Message) : List Station :=
  match m.dest with
  | some d => [d]
  | none => stations.filter (fun n => n ≠ m.source && s.joined n)

/-- The grant of the head of a queue (R126). -/
def State.grant (s : State) (n : Station) (cls : MsgClass) : State :=
  match s.lane.queue n cls with
  | [] => s
  | m :: rest =>
    (s.setLane { s.lane.setTxQueue n cls rest with
      transfer := some { msg := m, dests := s.destinationsOf m, remaining := m.laneLength }
      pointer := n
      deferred := if s.lane.deferred = some n then some n else none }).ackGranted m

/-! ## Delivery (R122) -/

/-- The receive queues after a copy has joined each destination's. -/
def Lane.withCopies (l : Lane) (t : Transfer) (stamp : Stamp) : PerStation (List Copy) :=
  l.rx.map (fun n q => if n ∈ t.dests then q ++ [{ msg := t.msg, delivered := stamp }] else q)

/-- The delivery of the transfer: copies, MESSAGE_ARRIVED in station order, SENT, the notice to the table, deferral of a
NORMAL sender, and a free lane (R122, R127). -/
def State.deliver (s : State) (t : Transfer) : State :=
  ((s.setLane { s.lane with
      rx := s.lane.withCopies t s.stamp
      transfer := none
      deferred := if t.msg.cls = .normal then some t.msg.source else s.lane.deferred }).raiseAll s.stamp
    ((stations.filter (· ∈ t.dests)).map
        (fun n => (n, Event.messageArrived t.msg.source t.msg.cls t.msg.tag)) ++
      [(t.msg.source, Event.sent t.msg.tag t.msg.seq)])).ackDelivered t.msg

/-! ## The end of a transfer before delivery, and returns (R116, R129, R131 to R134) -/

/-- The transfer ends: its reservations go with the record, and the lane is free. The idle indicator, the pointer, the
deferred station and the hold counts stay (R131). -/
def State.abandon (s : State) : State := s.setLane { s.lane with transfer := none }

/-- UNDELIVERABLE to the sender, then the notice to the table (R116, R129, R133). -/
def State.undeliverable (s : State) (stamp : Stamp) (reason : Reason) (m : Message) : State :=
  (s.raise m.source stamp (.undeliverable m.tag m.seq reason)).ackGone m

/-- A message queued at station n can no longer be delivered once x has left or departed (R116). -/
def State.returned (s : State) (x n : Station) (m : Message) : Bool :=
  match m.dest with
  | some d => d == x
  | none => !stations.any (fun k => k ≠ n && s.joined k)

/-- The returns of one sender, in post order across both queues (R116). -/
def State.returnsOf (s : State) (x : Station) (stamp : Stamp) (n : Station) : State :=
  ((s.lane.queued n).filter (s.returned x n)).foldl (fun t m => t.undeliverable stamp .peerGone m)
    (s.setLane { s.lane with
      tx := s.lane.tx.set n
        { urgent := (s.lane.queue n .urgent).filter (fun m => !s.returned x n m)
          normal := (s.lane.queue n .normal).filter (fun m => !s.returned x n m) } })

/-- The returns at a LEAVE, a departure or the end of LEAVING of x, senders in station order (R116). -/
def State.returns (s : State) (x : Station) (stamp : Stamp) : State :=
  (stations.filter (· ≠ x)).foldl (fun t n => t.returnsOf x stamp n) s

/-- Both transmit queues of station n discarded without an event, and n no longer deferred (R117, R118, R127). -/
def State.discardQueues (s : State) (n : Station) : State :=
  s.setLane { s.lane with
    tx := s.lane.tx.set n { urgent := [], normal := [] }
    deferred := if s.lane.deferred = some n then none else s.lane.deferred }

/-- Station n's delivered copies discarded (R118). -/
def State.emptyReceive (s : State) (n : Station) : State :=
  s.setLane { s.lane with rx := s.lane.rx.set n [] }

/-- What an abrupt departure of station n does to the transfer in flight: abandoned in silence if n is the sender (R134);
n's reservation dropped if it holds one, and the transfer abandoned with UNDELIVERABLE (PEER_GONE) if that was the last
(R133). -/
def State.dropFromTransfer (s : State) (n : Station) (stamp : Stamp) : State :=
  match s.lane.transfer with
  | none => s
  | some t =>
    if t.msg.source = n then s.abandon
    else if n ∈ t.dests then
      let rest := t.dests.filter (· ≠ n)
      if rest = [] then s.abandon.undeliverable stamp .peerGone t.msg
      else s.setLane { s.lane with transfer := some { t with dests := rest } }
    else s

/-! ## The lane's work at a frame boundary (R120) -/

/-- The lane's work at this boundary is done: the idle indicator is set or cleared (R120). -/
def State.laneDone (s : State) : State :=
  (s.setLane { s.lane with idle := s.lane.transfer.isNone, phase := .transferStep }).dropWork .lane

/-- The pending lane settings applied (R120, R136). -/
def Lane.withSettings (l : Lane) : Lane :=
  match l.pending with
  | some p => { l with settings := p, pending := none }
  | none => l

/-- The transfer step would complete the transfer in flight: settings first, then the bytes moved (R120, R121). -/
def Lane.completes (l : Lane) : Bool :=
  match l.transfer with
  | some t => t.remaining ≤ l.withSettings.settings.budget
  | none => false

/-- Settings, then the transfer step (R120, R121). A transfer still in flight after it ends the lane's work; otherwise
the arbitration comes next. -/
def State.laneTransferStep (s : State) : State :=
  let s1 := s.setLane s.lane.withSettings
  match s1.lane.transfer with
  | none => s1.setLane { s1.lane with phase := .arbitration }
  | some t =>
    if t.remaining ≤ s1.lane.settings.budget then
      let s2 := s1.deliver t
      s2.setLane { s2.lane with phase := .arbitration }
    else
      (s1.setLane { s1.lane with
        transfer := some { t with remaining := t.remaining - s1.lane.settings.budget } }).laneDone

/-- The arbitration: the heads blocked for room are judged before the grant (R123, R128). It is the same at every boundary:
a message posted before the first boundary after a reset is a candidate there (R108, R109), where R119 says in passing that
this boundary finds every queue empty and makes no grant (DESIGN CHOICE, log entry 25). -/
def State.laneArbitrate (s : State) : State :=
  let blocked := s.blockedHeads
  let s1 := match s.winner with
    | some x => s.grant x.1 x.2
    | none => s
  s1.setLane { s1.lane with phase := .holdCount blocked }

/-- The hold count of one blocked head raised, and the message returned if that reaches the limit (R128, R129). -/
def State.raiseHold (s : State) (x : Station × MsgClass) : State :=
  match s.lane.queue x.1 x.2 with
  | [] => s
  | m :: rest =>
    let m' := { m with hold := saturatingSucc m.hold }
    if s.lane.settings.holdLimit ≤ m'.hold then
      (s.setLane (s.lane.setTxQueue x.1 x.2 rest)).undeliverable s.stamp .holdExpired m
    else s.setLane (s.lane.setTxQueue x.1 x.2 (m' :: rest))

/-- The hold count of the boundary, which ends the lane's work (R128, R129, R120). -/
def State.laneHoldCount (s : State) (blocked : List (Station × MsgClass)) : State :=
  (blocked.foldl (fun t x => t.raiseHold x) s).laneDone

/-- The lane's work taken up to its arbitration. -/
def State.laneToArbitration (s : State) : State :=
  match s.lane.phase with
  | .transferStep => s.laneTransferStep
  | _ => s

/-- The lane's work taken up to its hold count. -/
def State.laneToHold (s : State) : State :=
  let s1 := s.laneToArbitration
  match s1.lane.phase with
  | .arbitration => s1.laneArbitrate
  | _ => s1

/-- The rest of the lane's work at this boundary. -/
def State.laneFinish (s : State) : State :=
  let s1 := s.laneToHold
  match s1.lane.phase with
  | .holdCount blocked => s1.laneHoldCount blocked
  | _ => s1

/-- Requests and announcements find the lane wholly before or wholly after its work, so work begun is finished before
one is taken (R120; log entry 7). -/
def State.closeLane (s : State) : State :=
  match s.lane.phase with
  | .transferStep => s
  | _ => s.laneFinish

end Sys2Proof.Machine
end

