-- ==== Sys2Proof/Machine/Departures.lean ====
section
/-! DEFINITION. The changes of membership that reach every block as one event: abrupt departure (R26), the end of LEAVING
(R31) and LEAVE (R30), with their records in the order of R153. -/

namespace Sys2Proof.Machine

/-- STATION_CHANGED to every other JOINED station, then COORDINATOR_CHANGED (none) if the station held the role (R21, R35,
R153). -/
def State.announce (s : State) (n : Station) (state : StationState) (cause : Cause) (held : Bool) (stamp : Stamp) :
    State :=
  let s1 := s.raiseToOthers n stamp (.stationChanged n state cause)
  if held then s1.raiseToJoined stamp (.coordinatorChanged none) else s1

/-- Station n holds the coordinator role. -/
def State.holdsRole (s : State) (n : Station) : Bool := s.registry.coordinator == some n

/-- The role is lost if station n holds it (R35). -/
def State.dropRole (s : State) (n : Station) : State := if s.holdsRole n then s.setCoordinator none else s

/-- A station record after a departure: the lease period in force is kept (R26, R31). -/
def StationRec.departed (r : StationRec) (state : StationState) (cause : Cause) : StationRec :=
  { r with state := state, cause := cause, leaseCounter := 0, name := 0, token := 0, seqCounter := 0 }

/-- An abrupt departure of station n: registry, allocator, exchange, lane, acknowledgement table and last the event queues
(R26, R44, R68, R102, R118, R133, R134, R116, R147, R148, R157). -/
def State.depart (s : State) (n : Station) (state : StationState) (cause : Cause) (stamp : Stamp) : State :=
  let s1 := (s.setStation n ((s.station n).departed state cause)).dropRole n
  let s2 := s1.announce n state cause (s.holdsRole n) stamp
  let s3 := (s2.orphanRoles n stamp).discardChanges n
  let s4 := s3.setRing n emptyRing
  let s5 := ((((s4.discardQueues n).dropFromTransfer n stamp).emptyReceive n).returns n stamp)
  let s6 := (s5.ackClear n).ackResolve n stamp
  s6.emptyQueue n

/-- The end of LEAVING of station n (R31, R45, R102, R118, R116, R147, R157). -/
def State.endLeaving (s : State) (n : Station) (stamp : Stamp) : State :=
  let s1 := s.setStation n ((s.station n).departed .absent .left)
  let s2 := s1.announce n .absent .left false stamp
  let s3 := (s2.orphanRoles n stamp).discardChanges n
  let s4 := s3.setRing n emptyRing
  let s5 := (s4.emptyReceive n).returns n stamp
  let s6 := s5.ackResolve n stamp
  s6.emptyQueue n

/-- An accepted LEAVE of station n (R30, R43, R68, R117, R116, R148). The receive queue, ring and event queue stay. -/
def State.leave (s : State) (n : Station) (stamp : Stamp) : State :=
  let s1 := (s.setStation n { s.station n with state := .leaving }).dropRole n
  let s2 := s1.announce n .leaving .left (s.holdsRole n) stamp
  let s3 := (s2.markRoles n).discardChanges n
  let s4 := (s3.discardQueues n).returns n stamp
  s4.ackClear n

end Sys2Proof.Machine
end

