-- ==== Sys2Proof/Machine/Boundary.lean ====
section
/-! DEFINITION. The works of a frame boundary, each taken as one event: TIMING (R17), lease countdown (R25, R27), latch
(R85), lane (R120), acknowledgement countdown (R144), epoch commit (R41), examination of LEAVING (R31). -/

namespace Sys2Proof.Machine

/-- The lease countdown of station n: LEASE_LOW at 8, the lapse at 0 (R25, R27). -/
def State.leaseCountdown (s : State) (n : Station) : State :=
  let r := s.station n
  if r.state = .joined then
    if r.leaseCounter - 1 = 0 then s.depart n .lapsed .leaseExpired s.stamp
    else
      let s1 := s.setStation n { r with leaseCounter := r.leaseCounter - 1 }
      if r.leaseCounter - 1 = Config.leaseLowAt then s1.raise n s.stamp (.leaseLow Config.leaseLowAt) else s1
  else s

/-- The examination of station n at an epoch boundary: LEAVING ends if no transfer to or from it is in flight (R31). -/
def State.examineLeaving (s : State) (n : Station) : State :=
  if (s.station n).state = .leaving ∧ s.lane.inFlightAt n = false then s.endLeaving n s.stamp else s

/-- The TIMING events of the boundary reach the queues of the stations they were raised to, in their order (R15, R17, R151,
R153). -/
def State.raiseTimings (s : State) : State :=
  (s.raiseAll s.stamp (stations.flatMap (fun n => (s.timings.get n).map (fun e => (n, e))))).setTimings (PerStation.all [])

/-- One work done. -/
def State.doWork (s : State) (w : Work) : State :=
  match w with
  | .timing => s.raiseTimings
  | .lease n => s.leaseCountdown n
  | .latch => s.latch
  | .lane => s.laneFinish
  | .ack => s.ackCountdown
  | .commit => s.commit
  | .leaving n => s.examineLeaving n

/-- One work taken if it is due: the lane's own work, or another after lane work begun is finished (R120). -/
def State.takeWork (s : State) (w : Work) : State :=
  if w ∈ s.due then
    if w = .lane then s.laneFinish
    else (s.closeLane.dropWork w).doWork w
  else s

/-- Works taken in the order of a list. -/
def State.takeWorks (s : State) (l : List Work) : State := l.foldl (fun t w => t.takeWork w) s

/-- Every work still due taken, in the default order. Nothing of a boundary is left when time passes, when the next
boundary is made, or when READ STATUS reads several blocks at once (R37). -/
def State.settle (s : State) : State := s.takeWorks (boundaryWorks true)

end Sys2Proof.Machine
end

