-- ==== Sys2Proof/Machine/RegistryRequests.lean ====
section
/-! DEFINITION. The requests whose owner is the registry, as the block serves them once the port and the requester checks
have passed: JOIN, LEAVE, DETACH, RENEW, READ STATUS, CLAIM COORDINATOR, RESIGN, SET LEASE, EVICT (R22 to R37), and READ
IDENTITY, which the port answers itself (R173). -/

namespace Sys2Proof.Machine

/-- A reply with status OK. -/
def ok (results : List Byte) : Reply := { status := .ok, results := results }

/-- A JOINED or LEAVING station other than n holds the name (R22). -/
def State.nameHeld (s : State) (n : Station) (name : Name) : Bool :=
  stations.any (fun k => k ≠ n && s.present k && (s.station k).name == name)

/-- The record of a station that joins (R23). -/
def StationRec.joining (r : StationRec) (name : Name) (setting : Nat) (frame : FrameNumber) : StationRec :=
  { r with state := .joined, name := name, leasePeriod := setting, leaseCounter := setting,
           token := frame.setWidth 8, seqCounter := 0 }

/-- JOIN (R22, R23). A JOIN after a boundary takes the frame number in force, so that boundary's countdown passes the
station by (R25; log entry 6) and its TIMING is in the queues before the records of the JOIN (`State.readyFor`). -/
def serveJoin (p : Station) (ops : List Byte) (s : State) : State × Reply :=
  let name := operand32 ops 0
  let r := s.station p
  if s.nameHeld p name then (s, refuse .nameTaken)
  else
    let f := s.timer.frame
    let r' := r.joining name s.registry.leaseSetting f
    (((s.setStation p r').dropWork (.lease p)).raiseToOthers p (stampOf f) (.stationChanged p .joined .none),
     ok ([stationByte p, r'.token, byte r'.leasePeriod, r.state.code, r.cause.code,
          resetCauseCode s.registry.resetCause] ++ bytes32 f))

/-- LEAVE (R30). After the commit, or after any work of the registry at an epoch boundary, that boundary is taken first,
and its examination passes the station by (R31, R43; log entry 6). A LEAVE that finds its own station's countdown still due
is taken before that countdown: the counter is not lowered and the station does not lapse, although the records carry the
new frame number (R30; DESIGN CHOICE, log entry 30). The TIMING of the boundary has come by then (`State.readyFor`). -/
def serveLeave (p : Station) (_ops : List Byte) (s : State) : State × Reply :=
  ((s.passExamination p).leave p s.stamp,
   ok [byte ((s.lane.queue p .urgent).length + (s.lane.queue p .normal).length), byte (quotaCount s.changes p),
       indicator (s.lane.inFlightAt p)])

/-- DETACH (R28). -/
def serveDetach (p : Station) (_ops : List Byte) (s : State) : State × Reply :=
  (s.depart p .absent .detached s.stamp, ok [(s.station p).state.code])

/-- The token after a RENEW: the low 8 bits of the frame number, or the presented token plus 1 if those are equal (R24). -/
def renewedToken (presented : Byte) (f : FrameNumber) : Byte :=
  if f.setWidth 8 = presented then presented + 1 else f.setWidth 8

/-- RENEW (R24), once the countdown of a boundary already made is taken at its station (`State.countdownFirst`). -/
def serveRenew (p : Station) (ops : List Byte) (s : State) : State × Reply :=
  let r := s.station p
  let presented := operand ops 0
  if presented = r.token then
    let t := renewedToken presented s.timer.frame
    let period := s.registry.leaseSetting
    (s.setStation p { r with token := t, leasePeriod := period, leaseCounter := period },
     ok [t, byte period, byte period])
  else (s, refuse .badToken)

/-- A count of the requester, 0 in ABSENT and LAPSED (R37). -/
def State.ownCount (s : State) (p : Station) (n : Nat) : Byte := if s.present p then byte n else 0

/-- The results of READ STATUS (R37, R170). -/
def State.statusResults (s : State) (p : Station) : List Byte :=
  stations.map (fun n => (s.station n).state.code) ++
  stations.flatMap (fun n => bytes32 (if s.present n then (s.station n).name else 0)) ++
  [stationOrNone s.registry.coordinator, byte s.registry.leaseSetting, s.ownCount p (s.station p).leaseCounter,
   byte (s.station p).leasePeriod, (s.station p).cause.code,
   s.ownCount p (s.lane.queue p .urgent).length, s.ownCount p (s.lane.queue p .normal).length,
   s.ownCount p (s.lane.rx.get p).length, s.ownCount p (s.lane.reserved p),
   s.ownCount p (s.rings.get p).entries.length, s.ownCount p (s.events.get p).count]

/-- READ STATUS (R37). It reads five blocks at one moment and mixes no boundary, so what is due of one is taken first. -/
def serveReadStatus (p : Station) (_ops : List Byte) (s : State) : State × Reply :=
  (s.settle, ok (s.settle.statusResults p))

/-- READ IDENTITY (R173). -/
def serveReadIdentity (_p : Station) (_ops : List Byte) (s : State) : State × Reply :=
  (s, ok (bytes16 Config.vendorCode ++ bytes16 Config.partCode ++ [Config.designRevision]))

/-- CLAIM COORDINATOR (R33, R35). -/
def serveClaimCoordinator (p : Station) (_ops : List Byte) (s : State) : State × Reply :=
  match s.registry.coordinator with
  | none => ((s.setCoordinator (some p)).raiseToJoined s.stamp (.coordinatorChanged (some p)), ok [])
  | some h => if h = p then (s, refuse .already) else (s, { status := .held, results := [stationByte h] })

/-- RESIGN (R34, R35). -/
def serveResign (p : Station) (_ops : List Byte) (s : State) : State × Reply :=
  if s.holdsRole p then
    ((s.setCoordinator none).raiseToJoined s.stamp (.coordinatorChanged none), ok [])
  else (s, refuse .notCoordinator)

/-- SET LEASE (R36). -/
def serveSetLease (_p : Station) (ops : List Byte) (s : State) : State × Reply :=
  let period := (operand ops 0).toNat
  if 8 ≤ period then
    (s.setRegistry { s.registry with leaseSetting := period }, ok [byte s.registry.leaseSetting])
  else (s, refuse .badOperand)

/-- EVICT (R29). -/
def serveEvict (p : Station) (ops : List Byte) (s : State) : State × Reply :=
  match Station.ofNumber (operand ops 0).toNat with
  | none => (s, refuse .badOperand)
  | some n =>
    if n = p then (s, refuse .self)
    else if s.present n then
      (s.depart n .lapsed .evicted s.stamp, ok [(s.station n).state.code])
    else (s, refuse .noEntry)

end Sys2Proof.Machine
end

