-- ==== Sys2Proof/Machine/LaneRequests.lean ====
section
/-! DEFINITION. The requests whose owner is the message lane or the acknowledgement table: POST (R104, R108), CANCEL (R110,
R132), TAKE MESSAGE (R113), PEEK MESSAGE (R114), QUEUE STATUS (R115), SET LANE (R136), ACK (R145). -/

namespace Sys2Proof.Machine

/-- The first sequence number from `c` on that no entry holds, passing over at most `k` (R104). -/
def freeSeq (held : List Byte) : Nat → Byte → Byte
  | 0, c => c
  | k + 1, c => if c ∈ held then freeSeq held k (c + 1) else c

/-- The sequence number of station n's next message (R104): a table holds at most 4 entries, so at most 4 values are
passed over. -/
def State.nextSeq (s : State) (n : Station) : Byte :=
  freeSeq ((s.acks.get n).map (fun a => a.seq)) Config.ackCapacity (s.station n).seqCounter

/-- The operands of a POST that passed steps 2 and 3 (R108). -/
structure PostOperands where
  dest       : Option Station
  cls        : MsgClass
  tag        : Byte
  ackTimeout : Option Nat
  payload    : List Byte
  deriving DecidableEq, Repr

/-- Destination 0 is a broadcast, 1 to 4 a station other than the requester (R108 step 2). -/
def postDest (p : Station) (b : Byte) : Option (Option Station) :=
  if b = 0 then some none
  else match Station.ofNumber b.toNat with
    | some n => if n = p then none else some (some n)
    | none => none

/-- Steps 2 and 3 of R108: the operands, or none for BAD_OPERAND. -/
def postOperands (p : Station) (ops : List Byte) : Option PostOperands :=
  let payload := ops.drop 6
  let length := (operand ops 5).toNat
  let wanted := (operand ops 2).getLsbD 0
  let timeout := (operand ops 4).toNat
  match postDest p (operand ops 0), MsgClass.ofCode (operand ops 1) with
  | some dest, some cls =>
    if 1 ≤ length ∧ length ≤ Config.maxPayload ∧ length = payload.length ∧ (wanted = true → 1 ≤ timeout)
        ∧ (wanted = true → dest.isSome = true) then
      some { dest := dest, cls := cls, tag := operand ops 3, ackTimeout := if wanted then some timeout else none,
             payload := payload }
    else none
  | _, _ => none

/-- Step 4 of R108: somebody to deliver to. -/
def State.peerJoined (s : State) (p : Station) (dest : Option Station) : Bool :=
  match dest with
  | some d => s.joined d
  | none => stations.any (fun n => n ≠ p && s.joined n)

/-- Steps 4 to 6 of R108. -/
def State.postRefusal (s : State) (p : Station) (o : PostOperands) : Option Status :=
  if s.peerJoined p o.dest = false then some .noPeer
  else if classCapacity o.cls ≤ (s.lane.queue p o.cls).length then some .queueFull
  else if o.ackTimeout.isSome ∧ Config.ackCapacity ≤ (s.acks.get p).length then some .tableFull
  else none

/-- The message record of an accepted POST (R103, R104). -/
def State.postedMessage (s : State) (p : Station) (o : PostOperands) : Message :=
  { source := p, dest := o.dest, cls := o.cls, tag := o.tag, seq := s.nextSeq p, ackTimeout := o.ackTimeout,
    payload := o.payload, stamp := s.stampAt .lane, hold := 0, posted := s.lane.nextPosted }

/-- A message placed at the tail of its class queue, the sequence counter raised past its number, and an acknowledgement
entry created if it asks for one (R104, R105, R108, R140). -/
def State.enqueue (s : State) (p : Station) (m : Message) : State :=
  let s1 := s.setLane { s.lane.setTxQueue p m.cls (s.lane.queue p m.cls ++ [m]) with
    nextPosted := s.lane.nextPosted + 1 }
  let s2 := s1.setStation p { s1.station p with seqCounter := m.seq + 1 }
  match m.dest, m.ackTimeout with
  | some d, some t => s2.ackCreate p m.seq m.tag d t
  | _, _ => s2

/-- POST (R108). -/
def servePost (p : Station) (ops : List Byte) (s : State) : State × Reply :=
  match postOperands p ops with
  | none => (s, refuse .badOperand)
  | some o =>
    match s.postRefusal p o with
    | some st => (s, refuse st)
    | none =>
      let m := s.postedMessage p o
      (s.enqueue p m, ok [m.seq, byte ((s.lane.queue p o.cls).length + 1)])

/-- The message is the transfer in flight (R110). -/
def Lane.carries (l : Lane) (m : Message) : Bool :=
  match l.transfer with
  | some t => t.msg.source == m.source && t.msg.posted == m.posted
  | none => false

/-- A queued message taken out of its queue; the records after it keep their order (R105, R110). -/
def Lane.without (l : Lane) (m : Message) : Lane :=
  l.setTxQueue m.source m.cls ((l.queue m.source m.cls).filter (fun x => x.posted ≠ m.posted))

/-- CANCEL (R110, R132). -/
def serveCancel (p : Station) (ops : List Byte) (s : State) : State × Reply :=
  match (s.lane.undelivered p).find? (fun m => m.tag == operand ops 0) with
  | none => (s, refuse .noEntry)
  | some m =>
    if s.lane.carries m then (s.abandon.ackGone m, ok [m.seq, 2])
    else
      ((s.setLane (s.lane.without m)).ackGone m,
       ok [m.seq, match m.cls with | .urgent => 0 | .normal => 1])

/-- A message copy record (R113, R171): the acknowledgement timeout is 00h when not requested. Bits 1 to 7 of the message
flags, which R169 leaves out, are 0 (DESIGN CHOICE, log entry 27). -/
def copyBytes (c : Copy) (remaining reserved : Nat) : List Byte :=
  [stationByte c.msg.source, stationOrNone c.msg.dest, c.msg.cls.code, indicator c.msg.ackTimeout.isSome, c.msg.tag,
   c.msg.seq, byte (c.msg.ackTimeout.getD 0)] ++ bytes16 c.msg.stamp ++ bytes16 c.delivered ++
  [byte remaining, byte reserved, byte c.msg.payload.length] ++ c.msg.payload

/-- TAKE MESSAGE (R113). -/
def serveTakeMessage (p : Station) (_ops : List Byte) (s : State) : State × Reply :=
  match s.lane.rx.get p with
  | [] => (s, { status := .empty, results := [0, byte (s.lane.reserved p)] })
  | c :: rest =>
    (s.setLane { s.lane with rx := s.lane.rx.set p rest }, ok (copyBytes c rest.length (s.lane.reserved p)))

/-- PEEK MESSAGE (R114): delivered copies remaining counts the copy shown. -/
def servePeekMessage (p : Station) (_ops : List Byte) (s : State) : State × Reply :=
  match s.lane.rx.get p with
  | [] => (s, { status := .empty, results := [0, byte (s.lane.reserved p)] })
  | c :: rest => (s, ok (copyBytes c (rest.length + 1) (s.lane.reserved p)))

/-- The hold count of a queue's head, 0 when the queue is empty (R115). -/
def Lane.headHold (l : Lane) (n : Station) (cls : MsgClass) : Nat :=
  match (l.queue n cls).head? with
  | some m => m.hold
  | none => 0

/-- Bytes remaining of a transfer from or to station n, else 0 (R115). -/
def Lane.bytesAt (l : Lane) (n : Station) : Nat :=
  match l.transfer with
  | some t => if l.inFlightAt n then t.remaining else 0
  | none => 0

/-- QUEUE STATUS (R115): in flight carries bit 0 for a transfer from the requester, bit 1 for one to it (R169). Its bits 2
to 7, which R169 leaves out, are 0 (DESIGN CHOICE, log entry 27). -/
def serveQueueStatus (p : Station) (_ops : List Byte) (s : State) : State × Reply :=
  let l := s.lane
  (s, ok [byte (l.queue p .urgent).length, byte (l.queue p .normal).length, byte (l.headHold p .urgent),
          byte (l.headHold p .normal), byte (l.rx.get p).length, byte (l.reserved p),
          (if l.sending p then 1 else 0) ||| (if l.reservedAt p then 2 else 0), byte (l.bytesAt p),
          indicator (l.deferred == some p)])

/-- SET LANE (R136). -/
def serveSetLane (_p : Station) (ops : List Byte) (s : State) : State × Reply :=
  let budget := (operand ops 0).toNat
  let hold := (operand ops 1).toNat
  if 8 ≤ budget ∧ budget ≤ 64 ∧ 1 ≤ hold then
    (s.setLane { s.lane with pending := some { budget := budget, holdLimit := hold } },
     ok [byte s.lane.settings.budget, byte s.lane.settings.holdLimit, indicator s.lane.pending.isSome])
  else (s, refuse .badOperand)

/-- The entry that an ACK matches (R145). -/
def AckEntry.matches (p : Station) (seq : Byte) (a : AckEntry) : Bool := a.seq == seq && a.awaits p

/-- The stamp of ACKED: the frame in progress (R145). An entry delivered at the present boundary is acknowledged in that
frame (R144); another, while the countdown of the boundary is due, in the frame before (R146; log entry 6). -/
def State.ackStamp (s : State) (a : AckEntry) : Stamp :=
  match a.state with
  | .delivered _ d => if d = s.stamp then s.stamp else s.stampAt .ack
  | _ => s.stampAt .ack

/-- ACK (R145). -/
def serveAck (p : Station) (ops : List Byte) (s : State) : State × Reply :=
  match Station.ofNumber (operand ops 0).toNat with
  | none => (s, refuse .badOperand)
  | some n =>
    if n = p then (s, refuse .badOperand)
    else
      match (s.acks.get n).find? (AckEntry.matches p (operand ops 1)) with
      | none => (s, { status := .late, results := [] })
      | some a =>
        ((s.setAckList n ((s.acks.get n).filter (fun x => !AckEntry.matches p (operand ops 1) x))).raise n
            (s.ackStamp a) (.acked a.seq a.tag),
         ok [a.tag])

end Sys2Proof.Machine
end

