-- ==== Sys2Proof/Machine/Timer.lean ====
section
/-! DEFINITION. The frame timer: boundaries (R2, R3), the internal timer (R5, R7), FREF edges (R6 to R10), the substitute
deadline (R11), loss of lock (R12), staged timing (R14, R15), TIMING (R17), and the passing of time (log entries 1, 2). -/

namespace Sys2Proof.Machine

/-- The tolerance P/64 (R1). -/
def Timer.tolerance (t : Timer) : Nat := t.period / 64

/-- The substitute delay P + P/64 (R1). -/
def Timer.substituteDelay (t : Timer) : Nat := t.period + t.tolerance

/-- An interval lies in the acceptance window, both ends included (R1, R6). -/
def Timer.accepts (t : Timer) (interval : Nat) : Bool :=
  t.period - t.tolerance ≤ interval && interval ≤ t.period + t.tolerance

/-- The last boundary was at least P/4 before the present instant (R8, R9). -/
def Timer.farFromBoundary (t : Timer) : Bool := t.lastBoundary + t.period / 4 ≤ t.now

/-- The frame number is a multiple of 16 (R3). -/
def Timer.atEpoch (t : Timer) : Bool := t.frame.toNat % Config.epochLength == 0

/-- The present instant moves on to `i`, and FSYNC falls once its microsecond is over (R2). -/
def Timer.at (t : Timer) (i : Nat) : Timer := { t with now := i, fsync := t.fsync && i == t.now }

/-- TIMING with the values as they stand (R17). -/
def Timer.event (t : Timer) : Event := .timing t.period t.mode t.refState

/-- TIMING of a change made at no boundary, raised at once to every JOINED station (R17). -/
def State.raiseTiming (s : State) : State := s.raiseToJoined s.stamp s.timer.event

/-- TIMING of a change made at a boundary, raised to the stations that are JOINED now: it reaches their queues as a work of
that boundary, after the TIMING before it (R15, R17, R153; log entry 24). -/
def State.announceTiming (s : State) : State :=
  s.setTimings (s.timings.map (fun n l => if s.joined n then l ++ [s.timer.event] else l))

/-- A pending record that differs from the settings in force, applied: the table of R14. -/
def Timer.apply (t : Timer) (r : TimingRecord) : Timer :=
  match t.mode, r.mode with
  | .free, .free => { t with period := r.period, anchor := t.now, pendingTiming := none }
  | _, .follow =>
    { t with period := r.period, mode := .follow, refState := .seeking, goodCount := 0, faultCount := 0,
             prevEdge := none, anchor := t.now, pendingTiming := none }
  | .follow, .free =>
    { t with period := r.period, mode := .free, refState := .off, goodCount := 0, faultCount := 0, prevEdge := none,
             anchor := t.now, pendingTiming := none }

/-- The pending record at an epoch boundary: dropped if equal to the settings in force, else applied with one TIMING
(R14). -/
def State.applyPendingTiming (s : State) : State :=
  match s.timer.pendingTiming with
  | none => s
  | some r =>
    if r.period = s.timer.period ∧ r.mode = s.timer.mode then s.setTimer { s.timer with pendingTiming := none }
    else (s.setTimer (s.timer.apply r)).announceTiming

/-- A frame boundary at the present instant (R2): the frame number, FSYNC, the TIMING of a change made at this boundary
(R15, R17), the pending record at an epoch boundary (R3), and the boundary handed to the blocks. The boundary's own TIMING
is one of its works, so it reaches the queues before or after any other block's records (R17, R153). -/
def State.makeBoundary (s : State) (announce : Bool) : State :=
  let s0 := s.settle
  let s1 := s0.setTimer { s0.timer with frame := s0.timer.frame + 1, lastBoundary := s0.timer.now, fsync := true }
  let s2 := if announce then s1.announceTiming else s1
  let s3 := if s1.timer.atEpoch then s2.applyPendingTiming else s2
  s3.setDue (boundaryWorks s1.timer.atEpoch)

/-- The internal timer runs out, in any reference state but LOCKED (R5, R7, R12). -/
def State.internalTimer (s : State) : State :=
  match s.timer.refState with
  | .locked => s
  | _ =>
    (s.setTimer (s.timer.at (max s.timer.now (s.timer.lastBoundary + s.timer.period)))).makeBoundary false

/-- A fault counted in LOCKED; the third makes the state LOST (R10, R11, R12). -/
def Timer.fault (t : Timer) : Timer :=
  if Config.faultLimit ≤ t.faultCount + 1 then
    { t with faultCount := Config.faultLimit, refState := .lost, goodCount := 0 }
  else { t with faultCount := t.faultCount + 1 }

/-- The substitute deadline, in LOCKED (R11, R12). R11 ends with the fault count 0 in both orders of a deadline and a good
edge at one instant; with two faults standing and the deadline taken first, R12 makes the state LOST with the count 3, and
the model follows R12: the edge is then judged in LOST (DESIGN CHOICE, log entry 29). -/
def State.substitute (s : State) : State :=
  match s.timer.refState with
  | .locked =>
    let t := s.timer.at (max s.timer.now (s.timer.anchor + s.timer.substituteDelay))
    let t1 := { t with anchor := t.now }.fault
    (s.setTimer t1).makeBoundary (t1.refState == .lost)
  | _ => s

/-- A bad edge in LOCKED (R10); on the third fault TIMING is raised at once, and a boundary made if P has already elapsed
(R12; log entry 11). The edge and that boundary are two events: the TIMING of LOST is in the queues before the boundary, and
a TIMING of a record that the boundary applies comes as a work of it, so that records of other blocks at the boundary may
stand between the two (R15, R153; DESIGN CHOICE, log entry 32). -/
def State.badLockedEdge (s : State) : State :=
  let s1 := s.setTimer s.timer.fault
  if s1.timer.refState = .lost then
    let s2 := s1.raiseTiming
    if s2.timer.lastBoundary + s2.timer.period ≤ s2.timer.now then s2.makeBoundary false else s2
  else s1

/-- A good edge in LOCKED (R9). -/
def State.goodLockedEdge (s : State) : State :=
  let s1 := s.setTimer { s.timer with faultCount := 0, anchor := s.timer.now }
  if s.timer.farFromBoundary then s1.makeBoundary false else s1

/-- The edge at which lock is gained (R8, R15). -/
def State.lockEdge (s : State) : State :=
  let s1 := s.setTimer
    { s.timer with refState := .locked, goodCount := 0, faultCount := 0, anchor := s.timer.now }
  if s.timer.farFromBoundary then s1.makeBoundary true else s1.raiseTiming

/-- A judged edge (R6): the interval is written, the edge becomes the previous edge, and the reference state decides
(R7 to R10). -/
def State.judgedEdge (s : State) (interval : Nat) : State :=
  let s1 := s.setTimer { s.timer with lastInterval := interval, prevEdge := some s.timer.now }
  match s.timer.refState with
  | .locked => if s.timer.accepts interval then s1.goodLockedEdge else s1.badLockedEdge
  | _ =>
    if s.timer.accepts interval then
      if s.timer.goodCount < Config.goodLimit then
        s1.setTimer { s1.timer with goodCount := s1.timer.goodCount + 1 }
      else s1.lockEdge
    else s1.setTimer { s1.timer with goodCount := 0 }

/-- A rising FREF edge at the present instant: not taken in FREE (R5), not judged without a previous edge (R6). Lane work
begun is finished first, so that a TIMING stands before or after its records (R120, R153; log entry 7), and so is the TIMING
of the last boundary, so that the timer's records keep their order (R17; log entry 24). -/
def State.edge (s : State) : State :=
  match s.timer.mode with
  | .free => s
  | .follow =>
    let u := s.closeLane.takeWork .timing
    match u.timer.prevEdge with
    | none => u.setTimer { u.timer with prevEdge := some u.timer.now }
    | some e => u.judgedEdge (min Config.maxInterval (u.timer.now - e))

/-! ## The passing of time -/

/-- The instant of the timer's next own boundary: the substitute deadline in LOCKED, else the internal timer (R5, R7,
R11). -/
def Timer.deadline (t : Timer) : Nat :=
  match t.refState with
  | .locked => t.anchor + t.substituteDelay
  | _ => t.lastBoundary + t.period

/-- The timer's own boundary of that instant. -/
def State.ownBoundary (s : State) : State :=
  match s.timer.refState with
  | .locked => s.substitute
  | _ => s.internalTimer

/-- Time passes to instant `i` with no boundary on the way; the works of the last boundary are done by then. -/
def State.passTo (s : State) (i : Nat) : State :=
  let s1 := s.settle
  s1.setTimer (s1.timer.at (max s1.timer.now i))

/-- Time passes to instant `i`, with the timer's own boundaries that fall before it made on the way, at most `k` of them
(log entry 2). -/
def State.advance : Nat → Nat → State → State
  | 0, i, s => s.passTo i
  | k + 1, i, s => if s.timer.deadline < i then State.advance k i s.ownBoundary else s.passTo i

/-- Time passes by a number of microseconds: periods are 100 us or more, so no more boundaries than microseconds fall
within it. -/
def State.elapse (s : State) (us : Nat) : State := if us = 0 then s else s.advance us (s.timer.now + us)

/-- What the hub does by itself when no command waits: the next work of the last boundary, else the timer's own boundary
if its instant has come, else one microsecond passes (log entry 1). -/
def State.idle (s : State) : State :=
  match (boundaryWorks true).find? (fun w => s.due.contains w) with
  | some w => s.takeWork w
  | none => if s.timer.deadline ≤ s.timer.now then s.ownBoundary else s.passTo (s.timer.now + 1)

end Sys2Proof.Machine
end

