-- ==== Sys2Proof/Machine/HubEvents.lean ====
section
/-! DEFINITION. The meanings of the rows that are no port's: HUB_RESET, the three rows that make frame boundaries, and the
six rows in which a block's work at a boundary comes to an outcome. A row whose event does not come about leaves the
state as it is (log entry 5). -/

namespace Sys2Proof.Machine

/-- The hub after a reset (R4, R18, R19, R42, R77, R92, R107, R119, R139, R150, R160). The level of each SEL# is an input
and stands; the commands that wait are outside the hub. -/
def State.afterReset (s : State) (cause : ResetCause) : State :=
  { State.reset with
    registry := { State.reset.registry with resetCause := cause }
    ports := s.ports.map (fun _ q => resetPort q.selHigh)
    pending := s.pending }

/-- HUB_RESET (R18). -/
def execHubReset (cause : ResetCause) (s : State) : Host.Outcome State Fault Refusal := .next (s.afterReset cause)

/-- INTERNAL_TIMER_RUNS_OUT (R5, R7): in LOCKED the internal timer does not run. -/
def execInternalTimerRunsOut (order : List Work) (s : State) : Host.Outcome State Fault Refusal :=
  .next (if s.timer.refState = .locked then s else s.internalTimer.takeWorks order)

/-- FREF_EDGE (R6): the edge comes `after` microseconds from now, and the works
of `order` that are due after it are taken. -/
def execFrefEdge (after : Nat) (order : List Work) (s : State) : Host.Outcome State Fault Refusal :=
  .next ((s.elapse after).edge.takeWorks order)

/-- SUBSTITUTE_DEADLINE (R11): in LOCKED alone. -/
def execSubstituteDeadline (order : List Work) (s : State) : Host.Outcome State Fault Refusal :=
  .next (if s.timer.refState = .locked then s.substitute.takeWorks order else s)

/-- The lease countdown of the boundary is due at station n and brings its counter to 0 (R25, R27). -/
def State.leaseExpires (s : State) (n : Station) : Bool :=
  s.due.contains (.lease n) && s.joined n && (s.station n).leaseCounter ≤ 1

/-- LEASE_EXPIRY (R27). -/
def execLeaseExpiry (n : Station) (s : State) : Host.Outcome State Fault Refusal :=
  .next (if s.leaseExpires n then s.takeWork (.lease n) else s)

/-- The examination of the epoch boundary is due at station n and ends its LEAVING (R31); lane work begun counts as
finished (R120). -/
def State.leavingEnds (s : State) (n : Station) : Bool :=
  s.due.contains (.leaving n) && (s.station n).state == .leaving && !s.closeLane.lane.inFlightAt n

/-- END_OF_LEAVING (R31). -/
def execEndOfLeaving (n : Station) (s : State) : Host.Outcome State Fault Refusal :=
  .next (if s.leavingEnds n then s.takeWork (.leaving n) else s)

/-- TRANSFER_DELIVERY (R121, R122): the transfer step of the boundary completes the transfer in flight. The arbitration
comes next. -/
def execTransferDelivery (s : State) : Host.Outcome State Fault Refusal :=
  .next (if s.due.contains .lane && s.lane.phase == .transferStep && s.lane.completes then s.laneTransferStep else s)

/-- LANE_GRANT (R123 to R126): the arbitration of the boundary, after the transfer step, grants a head. The hold count
comes next. -/
def execLaneGrant (s : State) : Host.Outcome State Fault Refusal :=
  let s1 := s.laneToArbitration
  .next (if s.due.contains .lane && s1.lane.phase == .arbitration && s1.winner.isSome then s1.laneArbitrate else s)

/-- The hold count would return a head (R129). -/
def State.holdExpires (s : State) (blocked : List (Station × MsgClass)) : Bool :=
  blocked.any (fun x => !(s.lane.queue x.1 x.2).isEmpty &&
    s.lane.settings.holdLimit ≤ saturatingSucc (s.lane.headHold x.1 x.2))

/-- HOLD_EXPIRED (R128, R129): the hold count of the boundary, after the arbitration, returns a head. It ends the lane's
work. -/
def execHoldExpired (s : State) : Host.Outcome State Fault Refusal :=
  let s1 := s.laneToHold
  .next (match s1.lane.phase with
    | .holdCount blocked => if s.due.contains .lane && s1.holdExpires blocked then s1.laneHoldCount blocked else s
    | _ => s)

/-- ACK_TIMEOUT (R144): the countdown of the boundary brings an entry to 0. -/
def execAckTimeout (s : State) : Host.Outcome State Fault Refusal :=
  .next (if s.due.contains .ack && s.ackExpiryDue then s.takeWork .ack else s)

end Sys2Proof.Machine
end

