-- ==== Sys2Proof/Machine/AllocatorRequests.lean ====
section
/-! DEFINITION. The requests whose owner is the slot allocator: the five staging requests (R57 to R63), WITHDRAW (R66),
LIST CHANGES (R67), READ MAP (R51). -/

namespace Sys2Proof.Machine

/-- Steps 3 and 4 of R57, then the checks of the request's own kind (step 5), then the entry. -/
def State.stageRequest (s : State) (origin : Option Station) (kind : ChangeKind) (slot : Nat)
    (own : Option Status) : State × Reply :=
  match s.stagingRefusal origin with
  | some st => (s, refuse st)
  | none =>
    match own with
    | some st => (s, refuse st)
    | none => s.accept origin kind slot

/-- The checks of CLAIM SLOT for a numbered slot against a map (R58). -/
def claimRefusal (m : List SlotEntry) (n : Station) (k : Nat) : Option Status :=
  let e := mapEntry m k
  if e.producer.isSome then (if e.producedBy n then some .already else some .slotHeld)
  else if e.consumedBy n then some .self
  else if Config.producerLimit ≤ producerCount m n then some .limit
  else none

/-- The first slot with no producer and no consumer record of n (R59). -/
def anySlot (m : List SlotEntry) (n : Station) : Option Nat :=
  slotNumbers.find? (fun k => (mapEntry m k).producer.isNone && !(mapEntry m k).consumedBy n)

/-- CLAIM SLOT (R57, R58, R59). -/
def serveClaimSlot (p : Station) (ops : List Byte) (s : State) : State × Reply :=
  let k := (operand ops 0).toNat
  if k < Config.slotCount then s.stageRequest (some p) .claim k (claimRefusal s.projected p k)
  else if k = 255 then
    match anySlot s.projected p with
    | some j =>
      s.stageRequest (some p) .claim j
        (if Config.producerLimit ≤ producerCount s.projected p then some .limit else none)
    | none => s.stageRequest (some p) .claim 0 (some .slotHeld)
  else (s, refuse .badOperand)

/-- RELEASE SLOT (R57, R60). -/
def serveReleaseSlot (p : Station) (ops : List Byte) (s : State) : State × Reply :=
  let k := (operand ops 0).toNat
  if k < Config.slotCount then
    s.stageRequest (some p) .release k
      (if (mapEntry s.projected k).producedBy p then none else some .notOwner)
  else (s, refuse .badOperand)

/-- The checks of SUBSCRIBE against an entry (R61). -/
def subscribeRefusal (e : SlotEntry) (n : Station) (mode : LogMode) : Option Status :=
  if e.producedBy n then some .self
  else if e.consumers.any (fun c => c.station == n && c.mode == mode) then some .already
  else if !e.consumedBy n && Config.consumerLimit ≤ e.consumers.length then some .limit
  else none

/-- SUBSCRIBE (R57, R61). -/
def serveSubscribe (p : Station) (ops : List Byte) (s : State) : State × Reply :=
  let k := (operand ops 0).toNat
  match LogMode.ofCode (operand ops 1) with
  | some mode =>
    if k < Config.slotCount then
      s.stageRequest (some p) (.subscribe mode) k (subscribeRefusal (mapEntry s.projected k) p mode)
    else (s, refuse .badOperand)
  | none => (s, refuse .badOperand)

/-- UNSUBSCRIBE (R57, R62). -/
def serveUnsubscribe (p : Station) (ops : List Byte) (s : State) : State × Reply :=
  let k := (operand ops 0).toNat
  if k < Config.slotCount then
    s.stageRequest (some p) .unsubscribe k
      (if (mapEntry s.projected k).consumedBy p then none else some .notSubscribed)
  else (s, refuse .badOperand)

/-- FORCE RELEASE (R57, R63): origin FORCED, no quota. -/
def serveForceRelease (_p : Station) (ops : List Byte) (s : State) : State × Reply :=
  let k := (operand ops 0).toNat
  if k < Config.slotCount then
    s.stageRequest none .forceRelease k
      (if (mapEntry s.projected k).producer.isSome then none else some .noEntry)
  else (s, refuse .badOperand)

/-- WITHDRAW (R66). -/
def serveWithdraw (p : Station) (ops : List Byte) (s : State) : State × Reply :=
  let i := (operand ops 0).toNat
  match s.changes.find? (fun c => c.id == i) with
  | none => (s, refuse .noEntry)
  | some c =>
    let removed := (s.setChanges (s.changes.filter (fun c => c.id ≠ i)),
                    ok [c.kind.entryKind.code, byte c.slot])
    match c.origin with
    | some n => if n = p then removed else (s, refuse .noEntry)
    | none => if s.holdsRole p then removed else (s, refuse .notCoordinator)

/-- A change-list entry record (R171). -/
def changeBytes (x : Change × ChangeResult) : List Byte :=
  [byte x.1.id, stationOrNone x.1.origin, x.1.kind.entryKind.code, byte x.1.slot, x.1.kind.mode.code] ++
    bytes16 x.1.stamp ++ [x.2.code]

/-- The entries LIST CHANGES returns: the requester's own, and the FORCED ones to the coordinator (R67). -/
def State.listed (s : State) (p : Station) : List (Change × ChangeResult) :=
  (projectedResults (s.slotMap.map SlotEntry.removeDue) s.changes).filter
    (fun x => x.1.origin = some p || (x.1.origin = none && s.holdsRole p))

/-- LIST CHANGES (R67). -/
def serveListChanges (p : Station) (_ops : List Byte) (s : State) : State × Reply :=
  (s, ok ([byte s.changes.length, byte (quotaCount s.changes p), byte (framesToEpoch (s.frameAt .commit)),
           byte (s.listed p).length] ++ (s.listed p).flatMap changeBytes))

/-- A consumer record (R171). -/
def consumerBytes (c : Consumer) : List Byte := [stationByte c.station, c.mode.code, roleFlags c.releaseDue c.orphaned]

/-- The producer and its flags as READ MAP reports them (R51). -/
def producerBytes (e : SlotEntry) : List Byte :=
  match e.producer with
  | some p => [stationByte p.station, roleFlags p.releaseDue p.orphaned]
  | none => [0, 0]

/-- READ MAP (R51). -/
def serveReadMap (_p : Station) (ops : List Byte) (s : State) : State × Reply :=
  let k := (operand ops 0).toNat
  if k < Config.slotCount then
    let e := s.entry k
    (s, ok ([byte k] ++ producerBytes e ++ [byte e.consumers.length] ++ e.consumers.flatMap consumerBytes ++
            [byte (s.changes.filter (fun c => c.slot = k)).length, byte (framesToEpoch (s.frameAt .commit))]))
  else (s, refuse .badOperand)

end Sys2Proof.Machine
end

