-- ==== Sys2Proof/Machine/EventRequests.lean ====
section
/-! DEFINITION. The requests whose owner is the event block: TAKE EVENT (R154) and SET MASK (R155). -/

namespace Sys2Proof.Machine

/-- TAKE EVENT (R154): the head record leaves the queue; the lost-events record is the last. -/
def serveTakeEvent (p : Station) (_ops : List Byte) (s : State) : State × Reply :=
  let q := s.events.get p
  match q.records, q.lost with
  | r :: rest, _ =>
    let q' := { q with records := rest }
    (s.setQueue p q', ok (r.bytes ++ [byte q'.count]))
  | [], some l => (s.setQueue p { q with lost := none }, ok (l.bytes ++ [0]))
  | [], none => (s, { status := .empty, results := [0] })

/-- SET MASK (R155): bit 15 may not be set. -/
def serveSetMask (p : Station) (ops : List Byte) (s : State) : State × Reply :=
  let mask := operand16 ops 0
  let q := s.events.get p
  if mask.getLsbD 15 then (s, refuse .badOperand)
  else
    (s.setQueue p { q with mask := mask.setWidth 15 }, ok (bytes16 (q.mask.setWidth 16) ++ [byte q.count]))

end Sys2Proof.Machine
end

