-- ==== Sys2Proof/Machine/ExchangeRequests.lean ====
section
/-! DEFINITION. The requests whose owner is the slot exchange: PUBLISH (R78, R79), READ SLOT (R89, R90), DRAIN RING (R100),
SET WATERMARK (R99). -/

namespace Sys2Proof.Machine

/-- The pairs of a PUBLISH in the order sent (R78, R170). -/
def publishPairs : List Byte → List (Nat × Word)
  | k :: hi :: lo :: rest => (k.toNat, word16 hi lo) :: publishPairs rest
  | _ => []

/-- Why a pair fails, if it does (R78). -/
def State.pairRefusal (s : State) (p : Station) (x : Nat × Word) : Option Status :=
  if Config.slotCount ≤ x.1 then some .badOperand
  else if (s.entry x.1).liveProducer p then none
  else some .notOwner

/-- The first pair that fails, with its index counted from `i` (R78). -/
def State.firstFailing (s : State) (p : Station) : Nat → List (Nat × Word) → Option (Nat × Status)
  | _, [] => none
  | i, x :: rest =>
    match s.pairRefusal p x with
    | some st => some (i, st)
    | none => s.firstFailing p (i + 1) rest

/-- A pair written: the buffer takes the value and the written flag is set (R79). -/
def writePair (l : List SlotState) (x : Nat × Word) : List SlotState :=
  l.set x.1 { l.getD x.1 resetSlot with buffer := x.2, written := true }

/-- The number of distinct slots of the pairs (R79). -/
def distinctSlots (l : List (Nat × Word)) : Nat := (l.map Prod.fst).dedup.length

/-- PUBLISH (R78, R79): all pairs pass and are written in order, or nothing is written. -/
def servePublish (p : Station) (ops : List Byte) (s : State) : State × Reply :=
  let pairs := publishPairs ops
  match s.firstFailing p 1 pairs with
  | some (i, st) => (s, { status := st, results := [byte i] })
  | none =>
    (s.setSlots (pairs.foldl writePair s.slots), ok (byte (distinctSlots pairs) :: bytes16 (s.stampAt .latch)))

/-- READ SLOT (R89, R90). -/
def serveReadSlot (p : Station) (ops : List Byte) (s : State) : State × Reply :=
  let k := (operand ops 0).toNat
  if k < Config.slotCount then
    let e := s.entry k
    let x := s.slot k
    if e.liveProducer p || e.liveConsumer p then
      (s, ok ([byte k, slotFlags x.delivered x.fresh] ++ bytes16 (x.delivered.getD 0) ++ [byte x.age, e.indicator] ++
              bytes16 x.stamp))
    else (s, refuse .notSubscribed)
  else (s, refuse .badOperand)

/-- A ring entry record (R171). -/
def ringBytes (e : RingEntry) : List Byte :=
  [byte e.slot] ++ bytes16 e.stamp ++ [slotFlags e.value e.fresh] ++ bytes16 (e.value.getD 0) ++ [byte e.gap]

/-- DRAIN RING (R100). -/
def serveDrainRing (p : Station) (ops : List Byte) (s : State) : State × Reply :=
  let n := (operand ops 0).toNat
  let r := s.rings.get p
  if 1 ≤ n ∧ n ≤ 8 then
    if r.entries = [] then (s, { status := .empty, results := [0, byte r.gap] })
    else
      let out := r.entries.take n
      let rest := r.entries.drop n
      (s.setRing p { r with entries := rest },
       ok ([byte out.length] ++ out.flatMap ringBytes ++ [byte rest.length, byte r.gap]))
  else (s, refuse .badOperand)

/-- SET WATERMARK (R99). -/
def serveSetWatermark (p : Station) (ops : List Byte) (s : State) : State × Reply :=
  let n := (operand ops 0).toNat
  let r := s.rings.get p
  if 1 ≤ n ∧ n ≤ 63 then
    (s.setRing p { r with watermark := n }, ok [byte r.watermark, byte r.entries.length])
  else (s, refuse .badOperand)

end Sys2Proof.Machine
end

