-- ==== Sys2Proof/Machine/TimerRequests.lean ====
section
/-! DEFINITION. The requests whose owner is the frame timer: SET TIMING (R13) and READ FRAME (R16). -/

namespace Sys2Proof.Machine

/-- SET TIMING (R13). -/
def serveSetTiming (_p : Station) (ops : List Byte) (s : State) : State × Reply :=
  let period := (operand16 ops 0).toNat
  match TimingMode.ofCode (operand ops 2) with
  | some mode =>
    if Config.minPeriod ≤ period ∧ period ≤ Config.maxPeriod then
      (s.setTimer { s.timer with pendingTiming := some { period := period, mode := mode } },
       ok [byte (framesToEpoch s.timer.frame), indicator s.timer.pendingTiming.isSome])
    else (s, refuse .badOperand)
  | none => (s, refuse .badOperand)

/-- The results of READ FRAME (R16, R170): the pending period is 0 and the pending mode FREE when no record is present. -/
def Timer.results (t : Timer) : List Byte :=
  bytes32 t.frame ++ bytes16 (BitVec.ofNat 16 t.period) ++ [t.mode.code, t.refState.code] ++
  bytes16 (BitVec.ofNat 16 t.lastInterval) ++
  [byte t.faultCount, byte (framesToEpoch t.frame), indicator t.pendingTiming.isSome] ++
  (match t.pendingTiming with
    | some r => bytes16 (BitVec.ofNat 16 r.period) ++ [r.mode.code]
    | none => bytes16 0 ++ [TimingMode.free.code])

/-- READ FRAME (R16). -/
def serveReadFrame (_p : Station) (_ops : List Byte) (s : State) : State × Reply := (s, ok s.timer.results)

end Sys2Proof.Machine
end

