-- ==== Sys2Proof/Machine/Link.lean ====
section
/-! DEFINITION. The station port, bit by bit (R159 to R167): selection, framing of a request, the checks at the instant of
a request (R163, R164), the requester and coordinator checks (R20, R32), the block that serves it, and the response. -/

namespace Sys2Proof.Machine

/-! ## The requester and coordinator checks (R20, R32) -/

/-- The requests that pass from LEAVING (R20). -/
def Request.fromLeaving : Request → Bool
  | .readStatus | .readFrame | .readIdentity | .detach | .publish | .readSlot | .drainRing | .takeMessage
  | .peekMessage | .ack | .queueStatus | .takeEvent => true
  | _ => false

/-- The requests that pass from LAPSED and ABSENT (R20). -/
def Request.fromOutside : Request → Bool
  | .join | .readStatus | .readIdentity => true
  | _ => false

/-- The table of R20: the refusal a requester's state gives, or none. -/
def requesterRefusal (st : StationState) (r : Request) : Option Status :=
  match st with
  | .joined => if r = .join then some .already else none
  | .leaving => if r = .join then some .already else if Request.fromLeaving r then none else some .leaving
  | .lapsed => if Request.fromOutside r then none else some .lapsed
  | .absent => if Request.fromOutside r then none else some .notJoined

/-- The coordinator requests (R32). -/
def Request.coordinatorOnly : Request → Bool
  | .setTiming | .setLane | .setLease | .evict | .forceRelease => true
  | _ => false

/-- The registry's checks in order: the requester's state, then the coordinator role (R20, R32). -/
def State.registryRefusal (s : State) (p : Station) (r : Request) : Option Status :=
  match requesterRefusal (s.station p).state r with
  | some st => some st
  | none => if Request.coordinatorOnly r && !s.holdsRole p then some .notCoordinator else none

/-! ## Serving a request -/

/-- The block that owns the state a request concerns applies it and forms the results (R163, R170). -/
def serve (r : Request) (p : Station) (ops : List Byte) (s : State) : State × Reply :=
  match r with
  | .join => serveJoin p ops s
  | .leave => serveLeave p ops s
  | .detach => serveDetach p ops s
  | .renew => serveRenew p ops s
  | .readStatus => serveReadStatus p ops s
  | .readFrame => serveReadFrame p ops s
  | .readIdentity => serveReadIdentity p ops s
  | .claimCoordinator => serveClaimCoordinator p ops s
  | .resign => serveResign p ops s
  | .setTiming => serveSetTiming p ops s
  | .setLane => serveSetLane p ops s
  | .setLease => serveSetLease p ops s
  | .evict => serveEvict p ops s
  | .forceRelease => serveForceRelease p ops s
  | .claimSlot => serveClaimSlot p ops s
  | .releaseSlot => serveReleaseSlot p ops s
  | .subscribe => serveSubscribe p ops s
  | .unsubscribe => serveUnsubscribe p ops s
  | .withdraw => serveWithdraw p ops s
  | .listChanges => serveListChanges p ops s
  | .readMap => serveReadMap p ops s
  | .publish => servePublish p ops s
  | .readSlot => serveReadSlot p ops s
  | .drainRing => serveDrainRing p ops s
  | .setWatermark => serveSetWatermark p ops s
  | .post => servePost p ops s
  | .cancel => serveCancel p ops s
  | .takeMessage => serveTakeMessage p ops s
  | .peekMessage => servePeekMessage p ops s
  | .ack => serveAck p ops s
  | .queueStatus => serveQueueStatus p ops s
  | .takeEvent => serveTakeEvent p ops s
  | .setMask => serveSetMask p ops s

/-- The port's checks in order: check byte, code, length (R164). The length is the length byte received. -/
def portCheck (good : Bool) (code : Byte) (length : Nat) : Request ⊕ Status :=
  if good then
    match Request.ofCode code with
    | none => .inr .badRequest
    | some r => if r.lengthOk length then .inl r else .inr .badLength
  else .inr .badCheck

/-- A RENEW that comes while its JOINED station's countdown of a boundary is due finds that countdown taken, since its token
is of the new frame (R24, R25; log entry 6). -/
def State.countdownFirst (s : State) (p : Station) (r : Request) : State :=
  if r = .renew ∧ s.joined p = true then s.takeWork (.lease p) else s

/-- The requests that the registry or the frame timer serves, READ STATUS apart, which takes every work itself. They find the
boundary made and carry its frame number (R16, R21, R23, R35), so they come after the timer's own event at it. -/
def Request.afterTiming : Request → Bool
  | .join | .leave | .detach | .renew | .readFrame | .claimCoordinator | .resign | .setTiming | .setLease | .evict => true
  | _ => false

/-- The hub as a request that passed the registry's checks finds it: lane work begun is finished (R120), and for a request at
the registry or the timer the TIMING of the boundary has reached the queues. So no record of a JOIN, a LEAVE, a departure or
a change of coordinator stands ahead of it, and no LEAVING station receives it (R17, R153, R157; log entry 24). -/
def State.readyFor (s : State) (r : Request) : State :=
  let u := s.closeLane
  if Request.afterTiming r = true ∧ Work.timing ∈ u.due then (u.dropWork .timing).raiseTimings else u

/-- A request at its instant: refused by the port, refused by the registry, or served by its block (R163, R164, R20, R32).
READ IDENTITY reaches no block (R173). -/
def State.takeRequest (s : State) (p : Station) (good : Bool) (code : Byte) (length : Nat) (ops : List Byte) :
    State × Reply :=
  match portCheck good code length with
  | .inr st => (s, refuse st)
  | .inl r =>
    let s1 := s.countdownFirst p r
    match s1.registryRefusal p r with
    | some st => (s1, refuse st)
    | none => if r = .readIdentity then serve r p ops s1 else serve r p ops (s1.readyFor r)

/-! ## The port, bit by bit -/

/-- The port at its entry into RESPONSE, holding the response to a reply (R163, R165). -/
def Port.answering (q : Port) (reply : Reply) : Port :=
  { q with phase := .response, bits := [], response := some (respond reply) }

/-- A byte of a request has completed (R161). The byte in CHECK is the instant of R163. -/
def State.receiveByte (s : State) (p : Station) (b : Byte) : State :=
  let q := s.ports.get p
  match q.phase with
  | .code => s.setPort p { q with bits := [], code := b, check := crcByte q.check b, phase := .length }
  | .length =>
    s.setPort p { q with
      bits := [], length := b, check := crcByte q.check b, phase := if b = 0 then .check else .operands }
  | .operands =>
    s.setPort p { q with
      bits := [], check := crcByte q.check b, opCount := q.opCount + 1
      operands := if q.opCount < Config.operandsKept then q.operands ++ [b] else q.operands
      phase := if q.opCount + 1 = q.length.toNat then .check else .operands }
  | .check =>
    let r := s.takeRequest p (b == q.check) q.code q.length.toNat q.operands
    r.1.setPort p (q.answering r.2)
  | _ => s

/-- A bit of the response has been sampled by the station; the next is presented, and after the last the port is in
TRAILING (R165). -/
def Port.shiftOut (q : Port) : Port :=
  match q.response with
  | some r =>
    if r.position + 1 < (responseBits r).length then
      { q with response := some { r with position := r.position + 1 } }
    else { q with phase := .trailing, response := some { r with position := r.position + 1 } }
  | none => { q with phase := .trailing }

/-- One lawful clock of SCK on port p with SDI at `b` (R159): a bit of the request taken, a bit of the response sent, or
nothing while SEL# is high, in TRAILING and in OVERRUN. -/
def State.clockBit (s : State) (p : Station) (b : Bool) : State :=
  let q := s.ports.get p
  match q.phase with
  | .code | .length | .operands | .check =>
    if q.bits.length + 1 < 8 then s.setPort p { q with bits := q.bits ++ [b] }
    else s.receiveByte p (byteOfBits (q.bits ++ [b]))
  | .response => s.setPort p q.shiftOut
  | .idle | .trailing | .overrun => s

/-- Bits clocked in one after another. -/
def State.clockBits (s : State) (p : Station) (l : List Bool) : State := l.foldl (fun t b => t.clockBit p b) s

/-- A request frame clocked in: code, length, operands, check byte (R161). -/
def State.clockFrame (s : State) (p : Station) (code : Byte) (f : Frame) : State :=
  s.clockBits p (bytesBits (frameBytes code f))

/-- A falling edge of SEL#. A line that stands low has none; a line that stands high has been seen high (R159, R160). -/
def Port.fall (q : Port) : Port :=
  if q.selHigh then
    { q with phase := .code, bits := [], operands := [], opCount := 0, check := 0, response := none,
             seenHigh := true, selHigh := false }
  else q

/-- A rising edge of SEL#: the selection ends, whatever its phase (R159, R165, R166, R167). Operands, their count, the check
register and the response are cleared at the rise, where the manual names the next falling edge (DESIGN CHOICE, log entry
28). -/
def Port.rise (q : Port) : Port :=
  { q with phase := .idle, bits := [], operands := [], opCount := 0, check := 0, response := none,
           seenHigh := true, selHigh := true }

/-- A rising edge of SCK that comes too soon: nothing is sampled, the request is discarded or the response corrupted
(R167). While SEL# is high SCK is ignored (R159). As the first edge of a selection it has none before it in the selection
to be judged against; the model takes it for too soon after one before the selection (DESIGN CHOICE, log entry 26). The
bits in progress and the response are dropped at this edge, operands, count and check at the rise (DESIGN CHOICE, log
entry 28). -/
def Port.overrunEdge (q : Port) : Port :=
  match q.phase with
  | .idle => q
  | _ => { q with phase := .overrun, bits := [], response := none }

end Sys2Proof.Machine
end

