-- ==== Sys2Proof/Machine/PortEvents.lean ====
section
/-! DEFINITION. The meanings of the port rows that are not requests of the table: SELECTION_START, SELECTION_END,
SELECTION_OVERRUN, UNKNOWN_REQUEST. -/

namespace Sys2Proof.Machine

/-- SELECTION_START (R159, R160). -/
def execSelectionStart (p : Station) (s : State) : Host.Outcome State Fault Refusal :=
  .next (s.setPort p (s.ports.get p).fall)

/-- SELECTION_END (R165, R166): the bits clocked before the rise, then the rise. Bits that complete no request are
discarded with the selection. -/
def execSelectionEnd (p : Station) (sdi : List Bool) (s : State) : Host.Outcome State Fault Refusal :=
  .next ((s.clockBits p sdi).setPort p ((s.clockBits p sdi).ports.get p).rise)

/-- SELECTION_OVERRUN (R167): the bits clocked lawfully, then the edge that comes too soon. -/
def execSelectionOverrun (p : Station) (sdi : List Bool) (s : State) : Host.Outcome State Fault Refusal :=
  .next ((s.clockBits p sdi).setPort p ((s.clockBits p sdi).ports.get p).overrunEdge)

/-- UNKNOWN_REQUEST (R164): a frame whose code is not in the table is answered BAD_REQUEST, or BAD_CHECK before that. -/
def execUnknownRequest (p : Station) (code : Byte) (f : Frame) (s : State) : Host.Outcome State Fault Refusal :=
  .next (s.clockFrame p code f)

end Sys2Proof.Machine
end

