-- ==== Sys2Proof/Machine/RequestRows.lean ====
section
/-! DEFINITION. The meanings of the 33 request rows. Each clocks its frame, with the row's own code (R170), through the port
it arrives on; at the last bit of the check byte the request is taken as the rule named gives (R163). A port that is not
in CODE takes no request: the bits are then ignored or clock a response out (R159, R165, R167). -/

namespace Sys2Proof.Machine

/-- JOIN (R22, R23). -/
def execJoin (p : Station) (f : Frame) (s : State) : Host.Outcome State Fault Refusal :=
  .next (s.clockFrame p Request.join.code f)

/-- LEAVE (R30). -/
def execLeave (p : Station) (f : Frame) (s : State) : Host.Outcome State Fault Refusal :=
  .next (s.clockFrame p Request.leave.code f)

/-- DETACH (R28). -/
def execDetach (p : Station) (f : Frame) (s : State) : Host.Outcome State Fault Refusal :=
  .next (s.clockFrame p Request.detach.code f)

/-- RENEW (R24). -/
def execRenew (p : Station) (f : Frame) (s : State) : Host.Outcome State Fault Refusal :=
  .next (s.clockFrame p Request.renew.code f)

/-- READ_STATUS (R37). -/
def execReadStatus (p : Station) (f : Frame) (s : State) : Host.Outcome State Fault Refusal :=
  .next (s.clockFrame p Request.readStatus.code f)

/-- READ_FRAME (R16). -/
def execReadFrame (p : Station) (f : Frame) (s : State) : Host.Outcome State Fault Refusal :=
  .next (s.clockFrame p Request.readFrame.code f)

/-- READ_IDENTITY (R173). -/
def execReadIdentity (p : Station) (f : Frame) (s : State) : Host.Outcome State Fault Refusal :=
  .next (s.clockFrame p Request.readIdentity.code f)

/-- CLAIM_COORDINATOR (R33). -/
def execClaimCoordinator (p : Station) (f : Frame) (s : State) : Host.Outcome State Fault Refusal :=
  .next (s.clockFrame p Request.claimCoordinator.code f)

/-- RESIGN (R34). -/
def execResign (p : Station) (f : Frame) (s : State) : Host.Outcome State Fault Refusal :=
  .next (s.clockFrame p Request.resign.code f)

/-- SET_TIMING (R13). -/
def execSetTiming (p : Station) (f : Frame) (s : State) : Host.Outcome State Fault Refusal :=
  .next (s.clockFrame p Request.setTiming.code f)

/-- SET_LANE (R136). -/
def execSetLane (p : Station) (f : Frame) (s : State) : Host.Outcome State Fault Refusal :=
  .next (s.clockFrame p Request.setLane.code f)

/-- SET_LEASE (R36). -/
def execSetLease (p : Station) (f : Frame) (s : State) : Host.Outcome State Fault Refusal :=
  .next (s.clockFrame p Request.setLease.code f)

/-- EVICT (R29). -/
def execEvict (p : Station) (f : Frame) (s : State) : Host.Outcome State Fault Refusal :=
  .next (s.clockFrame p Request.evict.code f)

/-- FORCE_RELEASE (R63). -/
def execForceRelease (p : Station) (f : Frame) (s : State) : Host.Outcome State Fault Refusal :=
  .next (s.clockFrame p Request.forceRelease.code f)

/-- CLAIM_SLOT (R58, R59). -/
def execClaimSlot (p : Station) (f : Frame) (s : State) : Host.Outcome State Fault Refusal :=
  .next (s.clockFrame p Request.claimSlot.code f)

/-- RELEASE_SLOT (R60). -/
def execReleaseSlot (p : Station) (f : Frame) (s : State) : Host.Outcome State Fault Refusal :=
  .next (s.clockFrame p Request.releaseSlot.code f)

/-- SUBSCRIBE (R61). -/
def execSubscribe (p : Station) (f : Frame) (s : State) : Host.Outcome State Fault Refusal :=
  .next (s.clockFrame p Request.subscribe.code f)

/-- UNSUBSCRIBE (R62). -/
def execUnsubscribe (p : Station) (f : Frame) (s : State) : Host.Outcome State Fault Refusal :=
  .next (s.clockFrame p Request.unsubscribe.code f)

/-- WITHDRAW (R66). -/
def execWithdraw (p : Station) (f : Frame) (s : State) : Host.Outcome State Fault Refusal :=
  .next (s.clockFrame p Request.withdraw.code f)

/-- LIST_CHANGES (R67). -/
def execListChanges (p : Station) (f : Frame) (s : State) : Host.Outcome State Fault Refusal :=
  .next (s.clockFrame p Request.listChanges.code f)

/-- READ_MAP (R51). -/
def execReadMap (p : Station) (f : Frame) (s : State) : Host.Outcome State Fault Refusal :=
  .next (s.clockFrame p Request.readMap.code f)

/-- PUBLISH (R78, R79). -/
def execPublish (p : Station) (f : Frame) (s : State) : Host.Outcome State Fault Refusal :=
  .next (s.clockFrame p Request.publish.code f)

/-- READ_SLOT (R89, R90). -/
def execReadSlot (p : Station) (f : Frame) (s : State) : Host.Outcome State Fault Refusal :=
  .next (s.clockFrame p Request.readSlot.code f)

/-- DRAIN_RING (R100). -/
def execDrainRing (p : Station) (f : Frame) (s : State) : Host.Outcome State Fault Refusal :=
  .next (s.clockFrame p Request.drainRing.code f)

/-- SET_WATERMARK (R99). -/
def execSetWatermark (p : Station) (f : Frame) (s : State) : Host.Outcome State Fault Refusal :=
  .next (s.clockFrame p Request.setWatermark.code f)

/-- POST (R108). -/
def execPost (p : Station) (f : Frame) (s : State) : Host.Outcome State Fault Refusal :=
  .next (s.clockFrame p Request.post.code f)

/-- CANCEL (R110). -/
def execCancel (p : Station) (f : Frame) (s : State) : Host.Outcome State Fault Refusal :=
  .next (s.clockFrame p Request.cancel.code f)

/-- TAKE_MESSAGE (R113). -/
def execTakeMessage (p : Station) (f : Frame) (s : State) : Host.Outcome State Fault Refusal :=
  .next (s.clockFrame p Request.takeMessage.code f)

/-- PEEK_MESSAGE (R114). -/
def execPeekMessage (p : Station) (f : Frame) (s : State) : Host.Outcome State Fault Refusal :=
  .next (s.clockFrame p Request.peekMessage.code f)

/-- ACK (R145). -/
def execAck (p : Station) (f : Frame) (s : State) : Host.Outcome State Fault Refusal :=
  .next (s.clockFrame p Request.ack.code f)

/-- QUEUE_STATUS (R115). -/
def execQueueStatus (p : Station) (f : Frame) (s : State) : Host.Outcome State Fault Refusal :=
  .next (s.clockFrame p Request.queueStatus.code f)

/-- TAKE_EVENT (R154). -/
def execTakeEvent (p : Station) (f : Frame) (s : State) : Host.Outcome State Fault Refusal :=
  .next (s.clockFrame p Request.takeEvent.code f)

/-- SET_MASK (R155). -/
def execSetMask (p : Station) (f : Frame) (s : State) : Host.Outcome State Fault Refusal :=
  .next (s.clockFrame p Request.setMask.code f)

end Sys2Proof.Machine
end

