-- ==== Sys2Proof/Machine/Dispatch.lean ====
section
/-! DEFINITION. One arm for each command: the meaning of its row. -/

namespace Sys2Proof.Machine

def exec (i : Instr) (s : State) : Host.Outcome State Fault Refusal :=
  match i with
  | .hubReset cause => Sys2Proof.Machine.execHubReset cause s
  | .internalTimerRunsOut order => Sys2Proof.Machine.execInternalTimerRunsOut order s
  | .frefEdge after order => Sys2Proof.Machine.execFrefEdge after order s
  | .substituteDeadline order => Sys2Proof.Machine.execSubstituteDeadline order s
  | .leaseExpiry n => Sys2Proof.Machine.execLeaseExpiry n s
  | .endOfLeaving n => Sys2Proof.Machine.execEndOfLeaving n s
  | .transferDelivery => Sys2Proof.Machine.execTransferDelivery s
  | .laneGrant => Sys2Proof.Machine.execLaneGrant s
  | .holdExpired => Sys2Proof.Machine.execHoldExpired s
  | .ackTimeout => Sys2Proof.Machine.execAckTimeout s
  | .selectionStart p => Sys2Proof.Machine.execSelectionStart p s
  | .selectionEnd p sdi => Sys2Proof.Machine.execSelectionEnd p sdi s
  | .selectionOverrun p sdi => Sys2Proof.Machine.execSelectionOverrun p sdi s
  | .unknownRequest p code f => Sys2Proof.Machine.execUnknownRequest p code f s
  | .join p f => Sys2Proof.Machine.execJoin p f s
  | .leave p f => Sys2Proof.Machine.execLeave p f s
  | .detach p f => Sys2Proof.Machine.execDetach p f s
  | .renew p f => Sys2Proof.Machine.execRenew p f s
  | .readStatus p f => Sys2Proof.Machine.execReadStatus p f s
  | .readFrame p f => Sys2Proof.Machine.execReadFrame p f s
  | .readIdentity p f => Sys2Proof.Machine.execReadIdentity p f s
  | .claimCoordinator p f => Sys2Proof.Machine.execClaimCoordinator p f s
  | .resign p f => Sys2Proof.Machine.execResign p f s
  | .setTiming p f => Sys2Proof.Machine.execSetTiming p f s
  | .setLane p f => Sys2Proof.Machine.execSetLane p f s
  | .setLease p f => Sys2Proof.Machine.execSetLease p f s
  | .evict p f => Sys2Proof.Machine.execEvict p f s
  | .forceRelease p f => Sys2Proof.Machine.execForceRelease p f s
  | .claimSlot p f => Sys2Proof.Machine.execClaimSlot p f s
  | .releaseSlot p f => Sys2Proof.Machine.execReleaseSlot p f s
  | .subscribe p f => Sys2Proof.Machine.execSubscribe p f s
  | .unsubscribe p f => Sys2Proof.Machine.execUnsubscribe p f s
  | .withdraw p f => Sys2Proof.Machine.execWithdraw p f s
  | .listChanges p f => Sys2Proof.Machine.execListChanges p f s
  | .readMap p f => Sys2Proof.Machine.execReadMap p f s
  | .publish p f => Sys2Proof.Machine.execPublish p f s
  | .readSlot p f => Sys2Proof.Machine.execReadSlot p f s
  | .drainRing p f => Sys2Proof.Machine.execDrainRing p f s
  | .setWatermark p f => Sys2Proof.Machine.execSetWatermark p f s
  | .post p f => Sys2Proof.Machine.execPost p f s
  | .cancel p f => Sys2Proof.Machine.execCancel p f s
  | .takeMessage p f => Sys2Proof.Machine.execTakeMessage p f s
  | .peekMessage p f => Sys2Proof.Machine.execPeekMessage p f s
  | .ack p f => Sys2Proof.Machine.execAck p f s
  | .queueStatus p f => Sys2Proof.Machine.execQueueStatus p f s
  | .takeEvent p f => Sys2Proof.Machine.execTakeEvent p f s
  | .setMask p f => Sys2Proof.Machine.execSetMask p f s

end Sys2Proof.Machine
end

