-- ==== Sys2Proof/Safety.lean ====
section
/-! DEFINITION. The terms in which claims about the hub are made: a selected port and its answer, records told to
stations, the rules of the map and of departures written out, and the laws that the manual states of each block's state. -/

namespace Sys2Proof

/-- The command that carries a request of the table. -/
def Request.instr (r : Request) (p : Station) (f : Frame) : Instr :=
  match r with
  | .join => .join p f | .leave => .leave p f | .detach => .detach p f | .renew => .renew p f
  | .readStatus => .readStatus p f | .readFrame => .readFrame p f | .readIdentity => .readIdentity p f
  | .claimCoordinator => .claimCoordinator p f | .resign => .resign p f | .setTiming => .setTiming p f
  | .setLane => .setLane p f | .setLease => .setLease p f | .evict => .evict p f | .forceRelease => .forceRelease p f
  | .claimSlot => .claimSlot p f | .releaseSlot => .releaseSlot p f | .subscribe => .subscribe p f
  | .unsubscribe => .unsubscribe p f | .withdraw => .withdraw p f | .listChanges => .listChanges p f
  | .readMap => .readMap p f | .publish => .publish p f | .readSlot => .readSlot p f | .drainRing => .drainRing p f
  | .setWatermark => .setWatermark p f | .post => .post p f | .cancel => .cancel p f
  | .takeMessage => .takeMessage p f | .peekMessage => .peekMessage p f | .ack => .ack p f
  | .queueStatus => .queueStatus p f | .takeEvent => .takeEvent p f | .setMask => .setMask p f

namespace Machine

/-! ## A port that takes a request, and its answer -/

/-- Port p has been selected and nothing has been clocked yet: what a falling edge of SEL# leaves (R159). -/
abbrev State.selected (s : State) (p : Station) : Prop :=
  (s.ports.get p).phase = .code ∧ (s.ports.get p).bits = [] ∧ (s.ports.get p).operands = [] ∧
  (s.ports.get p).opCount = 0 ∧ (s.ports.get p).check = 0

/-- A selected port once a whole request of the given code and operand bytes has been clocked in: RESPONSE, with the
response to the reply at its first bit (R161, R163, R165). -/
def Port.replied (q : Port) (code : Byte) (ops : List Byte) (reply : Reply) : Port :=
  { q with phase := .response, bits := [], code := code, length := byte ops.length,
           operands := ops.take Config.operandsKept, opCount := ops.length,
           check := crc (code :: byte ops.length :: ops), response := some (respond reply) }

/-- The state with port p holding the response to a request. -/
def State.replied (s : State) (p : Station) (code : Byte) (ops : List Byte) (reply : Reply) : State :=
  s.setPort p ((s.ports.get p).replied code ops reply)

/-! ## Records told to stations -/

/-- One record appended to the queue of every station chosen, the others left alone. -/
def State.told (s : State) (chosen : Station → Bool) (stamp : Stamp) (e : Event) : State :=
  { s with events := s.events.map (fun n q => if chosen n then q.append { stamp := stamp, event := e } else q) }

/-- Events with one stamp. -/
def stamped (st : Stamp) (l : List Event) : List EventRecord := l.map (fun e => { stamp := st, event := e })

/-- A queue after a list of records, in order. -/
def EventQueue.appendAll (q : EventQueue) (l : List EventRecord) : EventQueue := l.foldl EventQueue.append q

/-! ## A boundary of the frame timer -/

/-- The table of R14 at a boundary just made: at an epoch boundary a pending record equal to the settings in force is
dropped, and another applied with a TIMING. The values are the timer after it and the TIMING raised. -/
def Timer.pendingTaken (t : Timer) : Timer × List Event :=
  match t.pendingTiming with
  | none => (t, [])
  | some r =>
    if t.frame.toNat % 16 ≠ 0 then (t, [])
    else if r.period = t.period ∧ r.mode = t.mode then ({ t with pendingTiming := none }, [])
    else
      let new := { t with period := r.period, mode := r.mode, anchor := t.lastBoundary, pendingTiming := none }
      match t.mode, r.mode with
      | .free, .free => (new, [.timing r.period .free t.refState])
      | _, .follow =>
        ({ new with refState := .seeking, goodCount := 0, faultCount := 0, prevEdge := none },
         [.timing r.period .follow .seeking])
      | .follow, .free =>
        ({ new with refState := .off, goodCount := 0, faultCount := 0, prevEdge := none },
         [.timing r.period .free .off])

/-- The hub at a boundary just made: `made` is the timer with its own change made, `news` the TIMING of that change. At an
epoch boundary the pending record follows, with its TIMING after that one (R15). TIMING goes to the stations that are JOINED
now (R17). Every block's work is due, and the arrival of the TIMING in the event queues among them (`State.timingsTaken`). -/
def State.atBoundary (s : State) (made : Timer) (news : List Event) : State :=
  { s with
    timer := made.pendingTaken.1
    timings := s.timings.map (fun n l => if s.joined n then l ++ (news ++ made.pendingTaken.2) else l)
    due := boundaryWorks (made.frame.toNat % 16 == 0) }

/-- The hub once the TIMING of the boundary has reached the event queues of the stations it was raised to, in order and with
the stamp of the frame number in force (R15, R17); a station that is no member any more has none to come (R151, R157). -/
def State.timingsTaken (s : State) : State :=
  { s with
    timings := PerStation.all []
    events := s.events.map (fun n q =>
      if s.present n then q.appendAll (stamped (stampOf s.timer.frame) (s.timings.get n)) else q)
    due := s.due.erase .timing }

/-- The hub as a request at the registry or the frame timer finds it: lane work begun is finished (R120), and the TIMING of
the boundary is in the queues (R17, R153; log entry 24). -/
def State.timingFirst (s : State) : State :=
  let u := s.closeLane
  if Work.timing ∈ u.due then u.timingsTaken else u

/-! ## A staging request that is accepted -/

/-- The request r from port p puts one entry at the end of the change list, with the lowest free id, and answers ACCEPTED
(R53, R55, R57). -/
def State.stages (s : State) (p : Station) (r : Request) (ops : List Byte) (origin : Option Station)
    (kind : ChangeKind) (slot : Nat) : Prop :=
  let u := s.closeLane
  ∃ id : Nat, id < 24 ∧ (∀ c ∈ u.changes, c.id ≠ id) ∧ (∀ j < id, ∃ c ∈ u.changes, c.id = j) ∧
    exec (r.instr p (requestFrame r.code ops)) s =
      .next ((u.setChanges (u.changes ++ [{ id := id, origin := origin, kind := kind, slot := slot,
                                            stamp := stampOf (u.frameAt .commit) }])).replied p r.code ops
        { status := .accepted, results := [byte id, byte slot, byte (16 - (u.frameAt .commit).toNat % 16)] })

/-- The request r from port p is refused by its block with a status and no results; nothing but the port changes. -/
def State.refuses (s : State) (p : Station) (r : Request) (ops : List Byte) (st : Status) : Prop :=
  exec (r.instr p (requestFrame r.code ops)) s =
    .next (s.closeLane.replied p r.code ops { status := st, results := [] })

/-- The table of R93, row by row: a live consumer record of the mode, a producer, and the fresh flag as the latch has left
it. -/
def entryMade (mode : LogMode) (producer : Option Producer) (fresh : Bool) : Bool :=
  match mode, producer, fresh with
  | .none, _, _ => false
  | .every, some _, _ => true
  | .every, none, _ => false
  | .fresh, some { orphaned := false, .. }, true => true
  | .fresh, some { orphaned := false, .. }, false => false
  | .fresh, some { orphaned := true, .. }, _ => false
  | .fresh, none, _ => false

/-- The entries that the latch from s to t makes for a station's ring: slot order, each from the slot as t holds it (R93,
R94). -/
def State.latchEntries (s t : State) (n : Station) : List RingEntry :=
  (List.range 48).filterMap (fun k =>
    let x := t.slot k
    if (s.entry k).consumers.any (fun c =>
        c.station = n ∧ c.orphaned = false ∧ entryMade c.mode (s.entry k).producer x.fresh = true) then
      some { slot := k, stamp := stampOf s.timer.frame, value := x.delivered, fresh := x.fresh, gap := 0 }
    else none)

/-! ## The effect of staged changes on the map -/

/-- The entry once its roles marked RELEASE_DUE are removed: the consumer records left keep their order, and a producer
that stays keeps its flags (R48, R49). -/
def SlotEntry.cleared (e : SlotEntry) : SlotEntry :=
  { producer := match e.producer with
      | none => none
      | some { releaseDue := true, .. } => none
      | some { station := n, releaseDue := false, orphaned := o } =>
        some { station := n, releaseDue := false, orphaned := o }
    consumers := e.consumers.filter (fun c => c.releaseDue = false) }

/-- The rules of R70 to R74, row by row: what an entry of the change list gives against a map, OK or the reason it fails,
and its slot's entry afterwards. A failed entry changes nothing (R69). The last row is never staged (log entry 21). -/
def Change.outcome (c : Change) (m : List SlotEntry) : ChangeResult × SlotEntry :=
  let e := m.getD c.slot { producer := none, consumers := [] }
  let produces := fun (x : SlotEntry) (n : Station) => x.producer.any (fun p => p.station = n)
  let consumes := fun (n : Station) => e.consumers.any (fun r => r.station = n)
  let vacant : SlotEntry := { producer := none, consumers := e.consumers }
  match c.kind, c.origin with
  | .claim, some n =>
    if e.producer ≠ none then (.slotHeld, e)
    else if consumes n then (.self, e)
    else if 16 ≤ (m.filter (fun x => produces x n)).length then (.limit, e)
    else (.ok, { producer := some { station := n, releaseDue := false, orphaned := false }, consumers := e.consumers })
  | .release, some n => if produces e n then (.ok, vacant) else (.notOwner, e)
  | .forceRelease, _ => if e.producer ≠ none then (.ok, vacant) else (.noEntry, e)
  | .subscribe mode, some n =>
    if produces e n then (.self, e)
    else if consumes n then
      (.ok, { producer := e.producer
              consumers := e.consumers.map (fun r =>
                if r.station = n then
                  { station := n, mode := mode, releaseDue := r.releaseDue, orphaned := r.orphaned }
                else r) })
    else if e.consumers.length < 3 then
      (.ok, { producer := e.producer
              consumers := e.consumers ++
                [{ station := n, mode := mode, releaseDue := false, orphaned := false }] })
    else (.limit, e)
  | .unsubscribe, some n =>
    if consumes n then (.ok, { producer := e.producer, consumers := e.consumers.filter (fun r => r.station ≠ n) })
    else (.notSubscribed, e)
  | _, none => (.noEntry, e)

/-- The map after the removals and the first i entries of the change list, each taken in list order against the map as the
entries before it leave it (R48, R56, R69). -/
def State.mapAfter (s : State) (i : Nat) : List SlotEntry :=
  (s.changes.take i).foldl (fun m c => if (c.outcome m).1 = .ok then m.set c.slot (c.outcome m).2 else m)
    (s.slotMap.map SlotEntry.cleared)

/-- The kind of a staged change as LIST CHANGES, WITHDRAW and CHANGE_DONE name it (R53, R69). -/
def ChangeKind.shown : ChangeKind → EntryKind
  | .claim => .claim
  | .release => .release
  | .subscribe _ => .subscribe
  | .unsubscribe => .unsubscribe
  | .forceRelease => .forceRelease

/-- The byte of an entry kind on the link (R169). -/
def EntryKind.onLink : EntryKind → Byte
  | .claim => 0 | .release => 1 | .subscribe => 2 | .unsubscribe => 3 | .forceRelease => 4

/-- The byte of a change's result on the link, a status of section 11.5 (R169). -/
def ChangeResult.onLink : ChangeResult → Byte
  | .ok => 0x00 | .slotHeld => 0x30 | .notOwner => 0x31 | .self => 0x32 | .limit => 0x33 | .notSubscribed => 0x37
  | .noEntry => 0x38

/-! ## Ring entries with their gap count -/

/-- A run of entries of which the first carries the pending gap count (R96, R97). -/
def withGap (g : Nat) : List RingEntry → List RingEntry
  | [] => []
  | e :: l => { e with gap := g } :: l

/-! ## The heads at an arbitration -/

/-- The condition on destinations of a head (R123): a unicast's destination is a member with fewer than 8 places in use; at a
broadcast every JOINED station but the sender has. -/
def State.headReady (s : State) (g : Message) : Bool :=
  let room := fun k => decide ((s.lane.rx.get k).length + (if s.lane.reservedAt k then 1 else 0) < 8)
  match g.dest with
  | some d => s.present d && room d
  | none => [Station.s1, .s2, .s3, .s4].all (fun k => k == g.source || !s.joined k || room k)

/-- The condition of deferral (R124): a NORMAL head of the deferred station passes only while the idle indicator is set. -/
def State.headMayGo (s : State) (n : Station) (cls : MsgClass) : Bool :=
  cls == .urgent || s.lane.deferred != some n || s.lane.idle

/-- The queue has an eligible head (R123). -/
def State.headEligible (s : State) (n : Station) (cls : MsgClass) : Bool :=
  match s.lane.queue n cls with
  | [] => false
  | g :: _ => s.headReady g && s.headMayGo n cls

/-- The heads blocked for room: those that fail the condition on destinations alone, stations in station order, URGENT before
NORMAL (R123, R128). -/
def State.headsBlocked (s : State) : List (Station × MsgClass) :=
  [(Station.s1, MsgClass.urgent), (.s1, .normal), (.s2, .urgent), (.s2, .normal), (.s3, .urgent), (.s3, .normal),
    (.s4, .urgent), (.s4, .normal)].filter (fun x =>
      match s.lane.queue x.1 x.2 with
      | [] => false
      | g :: _ => !s.headReady g && s.headMayGo x.1 x.2)

/-! ## What a departure of a station does, block by block -/

/-- Once x is no longer JOINED, no station is left to which a message waiting at m can be delivered (R116). -/
def State.unreachable (s : State) (x m : Station) (g : Message) : Bool :=
  match g.dest with
  | some d => d == x
  | none => stations.all (fun k => k == m || k == x || !s.joined k)

/-- The transfer in flight, if it is from m and x is the last station that holds a reservation for it (R133). -/
def State.abandonedFor (s : State) (x m : Station) : List Message :=
  match s.lane.transfer with
  | some t => if t.msg.source = m ∧ m ≠ x ∧ x ∈ t.dests ∧ t.dests.filter (· ≠ x) = [] then [t.msg] else []
  | none => []

/-- The waiting messages of m that are returned, in post order across both queues: by their post ordinals (R105, R116). -/
def State.returnedFor (s : State) (x m : Station) : List Message :=
  ((s.lane.queue m .urgent ++ s.lane.queue m .normal).insertionSort (fun a b => a.posted ≤ b.posted)).filter
    (s.unreachable x m)

/-- The transfer in flight after an abrupt departure of x (R133, R134). -/
def Lane.transferWithout (l : Lane) (x : Station) : Option Transfer :=
  match l.transfer with
  | none => none
  | some t =>
    if t.msg.source = x then none
    else if x ∈ t.dests then
      (if t.dests.filter (· ≠ x) = [] then none else some { t with dests := t.dests.filter (· ≠ x) })
    else some t

/-- The transmit queues once x's are discarded and the others' unreachable messages returned (R116, R117, R118). -/
def State.queuesWithout (s : State) (x : Station) : PerStation TxQueues :=
  s.lane.tx.map (fun m q =>
    if m = x then { urgent := [], normal := [] }
    else { urgent := q.urgent.filter (fun g => !s.unreachable x m g)
           normal := q.normal.filter (fun g => !s.unreachable x m g) })

/-- A list of acknowledgement entries without those that follow the messages of a list (R143). -/
def withoutFollowers (gone : List Message) (l : List AckEntry) : List AckEntry :=
  l.filter (fun a => !gone.any (fun g => g.ackTimeout.isSome && g.seq == a.seq))

/-- STATION_CHANGED of x, and COORDINATOR_CHANGED if x held the role, for a station m (R21, R35). -/
def State.changeNews (s : State) (x m : Station) (state : StationState) (cause : Cause) : List Event :=
  if s.joined m then
    Event.stationChanged x state cause :: (if s.registry.coordinator = some x then [.coordinatorChanged none] else [])
  else []

/-- The PRODUCER_GONE records of x's slots for a station m, in slot order and in the order of each consumer list (R44). -/
def State.goneNews (s : State) (x m : Station) : List Event :=
  s.slotMap.zipIdx.flatMap (fun y =>
    if y.1.producer.any (fun p => p.station = x ∧ p.orphaned = false) then
      (y.1.consumers.filter (fun c => c.station = m ∧ c.orphaned = false)).map (fun _ => Event.producerGone y.2 x)
    else [])

/-- The UNDELIVERABLE records of a list of messages (R116, R133). -/
def undeliverableNews (gone : List Message) : List Event :=
  gone.map (fun g => Event.undeliverable g.tag g.seq .peerGone)

/-- An entry whose message was delivered to x, which has not acknowledged it (R147). -/
def AckEntry.deliveredTo (x : Station) (a : AckEntry) : Bool :=
  a.dest == x && (match a.state with | .delivered _ _ => true | .queued => false | .inFlight => false)

/-- The UNACKED records of the entries of a list that await x (R147). -/
def unackedNews (x : Station) (l : List AckEntry) : List Event :=
  (l.filter (fun a => a.deliveredTo x)).map (fun a => Event.unacked a.seq a.tag .peerGone)

/-- The entry once the roles of x are marked, every other role as it was: RELEASE_DUE set, and ORPHANED set if the roles are
orphaned, else left as it is (R43, R44). -/
def SlotEntry.rolesMarked (x : Station) (orphan : Bool) (e : SlotEntry) : SlotEntry :=
  { producer := match e.producer with
      | none => none
      | some p => some
        (if p.station = x then { station := x, releaseDue := true, orphaned := orphan || p.orphaned } else p)
    consumers := e.consumers.map (fun c =>
      if c.station = x then { station := x, mode := c.mode, releaseDue := true, orphaned := orphan || c.orphaned }
      else c) }

/-- The hub after an abrupt departure of x, every block at once (R26, R44, R68, R102, R116, R118, R133, R134, R147, R148,
R153, R157). -/
def State.withoutStation (s : State) (x : Station) (state : StationState) (cause : Cause) (st : Stamp) : State :=
  let lost := fun m => s.abandonedFor x m ++ s.returnedFor x m
  { s with
    registry := { s.registry with
      stations := s.registry.stations.set x { s.station x with
        state := state, cause := cause, leaseCounter := 0, name := 0, token := 0, seqCounter := 0 }
      coordinator := if s.registry.coordinator = some x then none else s.registry.coordinator }
    slotMap := s.slotMap.map (SlotEntry.rolesMarked x true)
    changes := s.changes.filter (fun c => c.origin ≠ some x)
    rings := s.rings.set x emptyRing
    lane := { s.lane with
      tx := s.queuesWithout x
      rx := s.lane.rx.set x []
      transfer := s.lane.transferWithout x
      deferred := if s.lane.deferred = some x then none else s.lane.deferred }
    timings := s.timings.set x []
    acks := s.acks.map (fun m l =>
      if m = x then [] else (withoutFollowers (lost m) l).filter (fun a => !a.deliveredTo x))
    events := s.events.map (fun m q =>
      if m = x then emptyEvents
      else if s.present m then
        q.appendAll (stamped st (s.changeNews x m state cause ++ s.goneNews x m ++ undeliverableNews (lost m) ++
          unackedNews x (withoutFollowers (lost m) (s.acks.get m))))
      else q) }

/-- The hub after an accepted LEAVE of x, every block at once (R30, R43, R68, R116, R117, R148, R153). -/
def State.withLeaving (s : State) (x : Station) (st : Stamp) : State :=
  { s with
    registry := { s.registry with
      stations := s.registry.stations.set x { s.station x with state := .leaving }
      coordinator := if s.registry.coordinator = some x then none else s.registry.coordinator }
    slotMap := s.slotMap.map (SlotEntry.rolesMarked x false)
    changes := s.changes.filter (fun c => c.origin ≠ some x)
    lane := { s.lane with
      tx := s.queuesWithout x
      deferred := if s.lane.deferred = some x then none else s.lane.deferred }
    acks := s.acks.map (fun m l => if m = x then [] else withoutFollowers (s.returnedFor x m) l)
    events := s.events.map (fun m q =>
      if m ≠ x ∧ s.present m = true then
        q.appendAll (stamped st (s.changeNews x m .leaving .left ++ undeliverableNews (s.returnedFor x m)))
      else q) }

/-- The hub after the end of LEAVING of x, every block at once (R31, R45, R102, R116, R118, R147, R153, R157). -/
def State.withLeft (s : State) (x : Station) (st : Stamp) : State :=
  { s with
    registry := { s.registry with
      stations := s.registry.stations.set x { s.station x with
        state := .absent, cause := .left, leaseCounter := 0, name := 0, token := 0, seqCounter := 0 } }
    slotMap := s.slotMap.map (SlotEntry.rolesMarked x true)
    changes := s.changes.filter (fun c => c.origin ≠ some x)
    rings := s.rings.set x emptyRing
    lane := { s.lane with tx := s.queuesWithout x, rx := s.lane.rx.set x [] }
    timings := s.timings.set x []
    acks := s.acks.map (fun m l =>
      if m = x then l else (withoutFollowers (s.returnedFor x m) l).filter (fun a => !a.deliveredTo x))
    events := s.events.map (fun m q =>
      if m = x then emptyEvents
      else if s.present m then
        q.appendAll (stamped st ((if s.joined m then [Event.stationChanged x .absent .left] else []) ++ s.goneNews x m ++
          undeliverableNews (s.returnedFor x m) ++
          unackedNews x (withoutFollowers (s.returnedFor x m) (s.acks.get m))))
      else q) }

/-! ## Event records on the link -/

/-- The kind number of an ordinary event record (section 10.2) and its four detail bytes (R171). -/
def Event.onLink (e : Event) : Nat × List Byte :=
  match e with
  | .changeDone id kind slot result => (1, [byte id, kind.onLink, byte slot, result.onLink])
  | .slotLost slot => (2, [byte slot, 0, 0, 0])
  | .slotVacated slot => (3, [byte slot, 0, 0, 0])
  | .producerGone slot departed => (4, [byte slot, byte departed.number, 0, 0])
  | .ringLevel count => (5, [byte count, 0, 0, 0])
  | .ringDropping => (6, [0, 0, 0, 0])
  | .messageArrived source cls tag => (7, [byte source.number, (match cls with | .normal => 0 | .urgent => 1), tag, 0])
  | .sent tag seq => (8, [tag, seq, 0, 0])
  | .undeliverable tag seq reason =>
    (9, [tag, seq, (match reason with | .peerGone => 1 | .holdExpired => 2 | .timeout => 3), 0])
  | .acked seq tag => (10, [seq, tag, 0, 0])
  | .unacked seq tag reason =>
    (11, [seq, tag, (match reason with | .peerGone => 1 | .holdExpired => 2 | .timeout => 3), 0])
  | .stationChanged station state cause =>
    (12, [byte station.number, (match state with | .absent => 0 | .joined => 1 | .leaving => 2 | .lapsed => 3),
      (match cause with | .none => 0 | .left => 1 | .detached => 2 | .leaseExpired => 3 | .evicted => 4), 0])
  | .coordinatorChanged holder => (13, [(match holder with | none => 0 | some n => byte n.number), 0, 0, 0])
  | .timing period mode ref =>
    (14, [byte (period / 256), byte period, (match mode with | .free => 0 | .follow => 1),
      (match ref with | .off => 0 | .seeking => 1 | .locked => 2 | .lost => 3)])
  | .leaseLow left => (15, [byte left, 0, 0, 0])

/-! ## The laws of the state -/

/-- The frame timer (spec/01, head table; R1, R5 to R7, R12). -/
abbrev Timer.law (t : Timer) : Prop :=
  (100 ≤ t.period ∧ t.period ≤ 20000) ∧ (t.refState = .off ↔ t.mode = .free) ∧ t.goodCount ≤ 3 ∧
  (t.mode = .free → t.goodCount = 0 ∧ t.faultCount = 0) ∧ (t.refState = .seeking → t.faultCount = 0) ∧
  (t.refState = .locked → t.goodCount = 0 ∧ t.faultCount ≤ 2) ∧ (t.refState = .lost → t.faultCount = 3) ∧
  t.lastInterval ≤ 65535 ∧ t.anchor ≤ t.now ∧ t.lastBoundary ≤ t.now ∧
  (match t.prevEdge with | none => True | some e => e ≤ t.now) ∧
  (match t.pendingTiming with | none => True | some r => 100 ≤ r.period ∧ r.period ≤ 20000)

/-- The registry (spec/02, section 2.1): the ranges of the lease values, a counter above 0 while JOINED (R25, R27), and no two
JOINED or LEAVING stations with the same name. -/
abbrev State.registryLaw (s : State) : Prop :=
  (8 ≤ s.registry.leaseSetting ∧ s.registry.leaseSetting ≤ 255) ∧
  (∀ n, (s.station n).leaseCounter ≤ 255 ∧ 8 ≤ (s.station n).leasePeriod ∧ (s.station n).leasePeriod ≤ 255 ∧
    (s.joined n = true → 1 ≤ (s.station n).leaseCounter)) ∧
  (∀ n m, n ≠ m → s.present n = true → s.present m = true → (s.station n).name ≠ (s.station m).name)

/-- The roles of the active map without their flags: each slot's producer, and its consumers with their logging modes, in
list order (R41). -/
def roleSets (m : List SlotEntry) : List (Option Station × List (Station × LogMode)) :=
  m.map (fun e => (e.producer.map (fun p => p.station), e.consumers.map (fun c => (c.station, c.mode))))

/-- An entry of the active map: at most three consumer records, one for each station, no station both producer and
consumer, and no role ORPHANED without RELEASE_DUE (R38, R39, R40). -/
abbrev SlotEntry.law (e : SlotEntry) : Prop :=
  e.consumers.length ≤ 3 ∧ (e.consumers.map (fun c => c.station)).Nodup ∧
  (∀ c ∈ e.consumers, e.producedBy c.station = false) ∧
  (∀ c ∈ e.consumers, c.orphaned = true → c.releaseDue = true) ∧
  (match e.producer with | none => True | some p => p.orphaned = true → p.releaseDue = true)

/-- The law of the active map (R38, R39). -/
abbrev State.mapLaw (s : State) : Prop :=
  s.slotMap.length = 48 ∧ (∀ e ∈ s.slotMap, e.law) ∧ (∀ n, producerCount s.slotMap n ≤ 16)

/-- The law of the change list (R53, R54). -/
abbrev State.changesLaw (s : State) : Prop :=
  s.changes.length ≤ 24 ∧ (s.changes.map (fun c => c.id)).Nodup ∧ (∀ n, quotaCount s.changes n ≤ 8) ∧
  (∀ c ∈ s.changes, c.id < 24 ∧ c.slot < 48 ∧ (c.origin = none ↔ c.kind = .forceRelease))

/-- The ranges of the slot exchange (R76, R91). -/
abbrev State.exchangeLaw (s : State) : Prop :=
  s.slots.length = 48 ∧ (∀ x ∈ s.slots, x.age ≤ 255) ∧
  (∀ n, (s.rings.get n).entries.length ≤ 64 ∧ (s.rings.get n).gap ≤ 255 ∧ 1 ≤ (s.rings.get n).watermark ∧
    (s.rings.get n).watermark ≤ 63 ∧ ∀ e ∈ (s.rings.get n).entries, e.slot < 48 ∧ e.gap ≤ 255)

/-- A message record as POST makes it (R103): a payload of 1 to 60 bytes. -/
abbrev Message.law (m : Message) : Prop := 1 ≤ m.payload.length ∧ m.payload.length ≤ 60

/-- The messages of a sender that have not been delivered: both queues and the transfer in flight (R110). -/
def Lane.ofSender (l : Lane) (n : Station) : List Message :=
  l.queue n .urgent ++ l.queue n .normal ++
    (match l.transfer with
      | none => []
      | some t => if t.msg.source = n then [t.msg] else [])

/-- The law of the lane's queues: the capacities of the transmit queues, at most 8 places in use in every receive queue, a
transfer with 1 to 64 bytes remaining (R105, R112, R119), each queue in post order and the post ordinals of a
sender's undelivered messages distinct (R105), and lane work half done only while it is due (R120). -/
abbrev State.laneLaw (s : State) : Prop :=
  (∀ n, (s.lane.queue n .urgent).length ≤ 4 ∧ (s.lane.queue n .normal).length ≤ 8) ∧
  (∀ n c, ∀ m ∈ s.lane.queue n c, m.law ∧ m.source = n ∧ m.cls = c) ∧
  (∀ n c, ((s.lane.queue n c).map (fun m => m.posted)).Pairwise (· < ·)) ∧
  (∀ n, (s.lane.rx.get n).length + s.lane.reserved n ≤ 8) ∧
  (match s.lane.transfer with | none => True | some t => t.msg.law ∧ 1 ≤ t.remaining ∧ t.remaining ≤ 64) ∧
  (8 ≤ s.lane.settings.budget ∧ s.lane.settings.budget ≤ 64 ∧ 1 ≤ s.lane.settings.holdLimit ∧
    s.lane.settings.holdLimit ≤ 255) ∧
  (match s.lane.pending with
    | none => True | some x => 8 ≤ x.budget ∧ x.budget ≤ 64 ∧ 1 ≤ x.holdLimit ∧ x.holdLimit ≤ 255) ∧
  (∀ n, ((s.lane.ofSender n).map (fun m => m.posted)).Nodup ∧
    ∀ m ∈ s.lane.ofSender n, m.posted < s.lane.nextPosted) ∧
  (s.lane.phase ≠ .transferStep → Work.lane ∈ s.due)

/-- The law of the acknowledgement table (R138). -/
abbrev State.acksLaw (s : State) : Prop :=
  ∀ n, (s.acks.get n).length ≤ 4 ∧ ((s.acks.get n).map (fun a => a.seq)).Nodup ∧ ∀ a ∈ s.acks.get n, a.dest ≠ n

/-- The law of an event queue: at most 15 ordinary records, and a lost-events record that counts 1 to 255 (R149, R152). -/
abbrev EventQueue.law (q : EventQueue) : Prop :=
  q.records.length ≤ 15 ∧ (match q.lost with | none => True | some x => 1 ≤ x.count ∧ x.count ≤ 255)

/-- Every event queue keeps its law, and at most two TIMING events (R15) wait to reach each, only while that is due and only
for a JOINED station (R17, R157). -/
abbrev State.eventsLaw (s : State) : Prop :=
  ∀ n, (s.events.get n).law ∧ (s.timings.get n).length ≤ 2 ∧
    (s.timings.get n ≠ [] → Work.timing ∈ s.due ∧ s.joined n = true)

/-- Every role that a station holds in an entry is marked RELEASE_DUE and ORPHANED. -/
abbrev SlotEntry.onlyOrphansOf (e : SlotEntry) (n : Station) : Prop :=
  (match e.producer with
    | none => True | some p => p.station = n → p.releaseDue = true ∧ p.orphaned = true) ∧
  (∀ c ∈ e.consumers, c.station = n → c.releaseDue = true ∧ c.orphaned = true)

/-- What a station in ABSENT or LAPSED holds (spec/02, section 2.1; R26, R31): nothing but roles marked for removal. -/
abbrev State.holdsNothing (s : State) (n : Station) : Prop :=
  (s.station n).name = 0 ∧ (s.station n).leaseCounter = 0 ∧ (s.station n).token = 0 ∧ (s.station n).seqCounter = 0 ∧
  (∀ e ∈ s.slotMap, e.onlyOrphansOf n) ∧ s.rings.get n = emptyRing ∧ s.lane.rx.get n = [] ∧
  s.lane.inFlightAt n = false ∧ s.events.get n = emptyEvents ∧ s.timings.get n = []

/-- Only a JOINED station has waiting messages, acknowledgement entries, staged changes or the coordinator role (R30, R35,
R43, R68, R117, R148). -/
abbrev State.onlyJoinedHolds (s : State) (n : Station) : Prop :=
  s.lane.queue n .urgent = [] ∧ s.lane.queue n .normal = [] ∧ s.acks.get n = [] ∧
  (∀ c ∈ s.changes, c.origin ≠ some n) ∧ s.registry.coordinator ≠ some n

/-- Membership decides what a station holds in every block; a waiting message stands in its own sender's queue (R105). -/
abbrev State.membershipLaw (s : State) : Prop :=
  (∀ n, (s.present n = false → s.holdsNothing n) ∧ (s.joined n = false → s.onlyJoinedHolds n)) ∧
  (∀ n c, ∀ m ∈ s.lane.queue n c, m.source = n)

end Machine
end Sys2Proof
end

