-- ==== Sys2Proof/WellFormed.lean ====
section
/-! DEFINITION. The commands that the outside world can give: what `Instr` can write down and the pins or the manual rule out.
Every meaning is total all the same. -/

namespace Sys2Proof

/-- The length byte counts the operand bytes (R161). -/
def Frame.wf (f : Frame) : Bool := f.operands.length ≤ 255

/-- A block takes each of its works once at a boundary (R2, R85, R120, R144). -/
def orderWf (order : List Work) : Bool := decide order.Nodup

/-- UNKNOWN_REQUEST stands for the codes outside the table of R170. -/
def unknownCode (c : Byte) : Bool := (Request.ofCode c).isNone

/-- A command that the hub can be given. -/
def Instr.wf : Instr → Bool
  | .hubReset _ => true
  | .internalTimerRunsOut order => orderWf order
  | .frefEdge _ order => orderWf order
  | .substituteDeadline order => orderWf order
  | .leaseExpiry _ => true
  | .endOfLeaving _ => true
  | .transferDelivery => true
  | .laneGrant => true
  | .holdExpired => true
  | .ackTimeout => true
  | .selectionStart _ => true
  | .selectionEnd _ _ => true
  | .selectionOverrun _ _ => true
  | .unknownRequest _ code f => unknownCode code && f.wf
  | .join _ f => f.wf
  | .leave _ f => f.wf
  | .detach _ f => f.wf
  | .renew _ f => f.wf
  | .readStatus _ f => f.wf
  | .readFrame _ f => f.wf
  | .readIdentity _ f => f.wf
  | .claimCoordinator _ f => f.wf
  | .resign _ f => f.wf
  | .setTiming _ f => f.wf
  | .setLane _ f => f.wf
  | .setLease _ f => f.wf
  | .evict _ f => f.wf
  | .forceRelease _ f => f.wf
  | .claimSlot _ f => f.wf
  | .releaseSlot _ f => f.wf
  | .subscribe _ f => f.wf
  | .unsubscribe _ f => f.wf
  | .withdraw _ f => f.wf
  | .listChanges _ f => f.wf
  | .readMap _ f => f.wf
  | .publish _ f => f.wf
  | .readSlot _ f => f.wf
  | .drainRing _ f => f.wf
  | .setWatermark _ f => f.wf
  | .post _ f => f.wf
  | .cancel _ f => f.wf
  | .takeMessage _ f => f.wf
  | .peekMessage _ f => f.wf
  | .ack _ f => f.wf
  | .queueStatus _ f => f.wf
  | .takeEvent _ f => f.wf
  | .setMask _ f => f.wf

end Sys2Proof
end

