-- ==== Sys2Proof/Certificates/Slice0/Obligations.lean ====
section
/-! DEFINITION. The statements for the provers. In a statement about a request, `requestFrame code ops` is the frame with a
right check byte, `s.selected p` says that the port has been selected and nothing clocked, `s.closeLane` is s itself when
no lane work of the boundary is half done (log entry 7), `s.timingFirst` that with the TIMING of a boundary already made in the
queues (log entry 24), and `t.replied p code ops reply` is t with the answer in port p. -/

open Sys2Proof Sys2Proof.Machine

/-! ## The machine -/

/-- The block form: the front command is run with the queue's rest. -/
def Obligations.StepRunsTheFrontCommand : Prop :=
  ∀ (c : Instr) (rest : List Instr) (s : State),
    step { s with pending := c :: rest } = exec c { s with pending := rest }

/-- Model's choice (log entry 1): on an empty queue with no work due and the timer's deadline ahead, one microsecond
passes; when the deadline has come, the timer's own boundary is made. -/
def Obligations.EmptyQueueLetsTimePass : Prop :=
  ∀ s : State, s.pending = [] → s.due = [] →
    (s.timer.now < s.timer.deadline →
      step s = .next (s.setTimer { s.timer with now := s.timer.now + 1, fsync := false })) ∧
    (s.timer.deadline ≤ s.timer.now → step s = .next s.ownBoundary)

/-- No command, HUB_RESET among them, changes the queue of waiting commands: the model's choice (log entries 12 and 23), since
the spec has no such queue. R19: the reset cause is written by a hub reset and by nothing
else, and the two kinds of reset differ in it alone. -/
def Obligations.CommandsKeepTheQueueAndTheResetCause : Prop :=
  (∀ (c : Instr) (s t : State), exec c s = .next t → t.pending = s.pending) ∧
  ((∀ (c : Instr) (s t : State), exec c s = .next t → (∀ k, c ≠ .hubReset k) →
    t.registry.resetCause = s.registry.resetCause) ∧
  (∀ (k : ResetCause) (s t : State), exec (.hubReset k) s = .next t → t.registry.resetCause = k) ∧
  (∀ s t u : State, exec (.hubReset .powerOn) s = .next t → exec (.hubReset .pin) s = .next u →
    u = t.setRegistry { t.registry with resetCause := .pin }))

/-- R18, R4, R42, R77, R92, R107, R119, R139, R150, R160: the values the spec gives for reset. -/
def Obligations.ResetValues : Prop :=
  let s := State.reset
  (s.timer.period = 1000 ∧ s.timer.mode = .free ∧ s.timer.refState = .off ∧ s.timer.frame = 0 ∧
    s.timer.goodCount = 0 ∧ s.timer.faultCount = 0 ∧ s.timer.lastInterval = 0 ∧ s.timer.prevEdge = none ∧
    s.timer.pendingTiming = none ∧ s.timer.fsync = false ∧ s.timer.anchor = s.timer.now ∧
    s.timer.lastBoundary = s.timer.now) ∧
  (∀ n, s.station n = { state := .absent, name := 0, leaseCounter := 0, token := 0, leasePeriod := 64,
                        cause := .none, seqCounter := 0 }) ∧
  (s.registry.coordinator = none ∧ s.registry.leaseSetting = 64) ∧
  (s.slotMap = List.replicate 48 { producer := none, consumers := [] } ∧ s.changes = []) ∧
  (s.slots = List.replicate 48
    { buffer := 0, written := false, delivered := none, age := 0, fresh := false, stamp := 0 }) ∧
  (∀ n, s.rings.get n = { entries := [], gap := 0, watermark := 48 }) ∧
  (∀ n, s.lane.queue n .urgent = [] ∧ s.lane.queue n .normal = [] ∧ s.lane.rx.get n = []) ∧
  (s.lane.transfer = none ∧ s.lane.pointer = .s4 ∧ s.lane.deferred = none ∧ s.lane.idle = true ∧
    s.lane.settings = { budget := 16, holdLimit := 32 } ∧ s.lane.pending = none) ∧
  (∀ n, s.acks.get n = []) ∧
  (∀ n, s.events.get n = { records := [], lost := none, mask := 0 } ∧ s.attention n = false) ∧
  (∀ n, (s.ports.get n).phase = .idle ∧ (s.ports.get n).seenHigh = false ∧ (s.ports.get n).bits = [] ∧
    (s.ports.get n).operands = [] ∧ (s.ports.get n).opCount = 0 ∧ (s.ports.get n).check = 0 ∧
    (s.ports.get n).response = none ∧ (s.ports.get n).sdo = none)

/-- HUB_RESET from any state (R4, R18, R42, R77, R92, R107, R119, R139, R150, R160): every item at its value of
State.reset, but the reset cause, the levels of SEL# and the waiting commands. Three clauses are the model's choice and no
rule of the spec: the level of SEL# stays (log entry 9), a port's code byte and length byte are 00h (log entry 10), and the
waiting commands stay (log entry 12). -/
def Obligations.HubResetFromAnyState : Prop :=
  ∀ (cause : ResetCause) (s : State), ∃ t, exec (.hubReset cause) s = .next t ∧
    t.timer = State.reset.timer ∧ t.registry = { State.reset.registry with resetCause := cause } ∧
    t.slotMap = State.reset.slotMap ∧ t.changes = State.reset.changes ∧ t.slots = State.reset.slots ∧
    t.rings = State.reset.rings ∧ t.lane = State.reset.lane ∧ t.acks = State.reset.acks ∧
    t.events = State.reset.events ∧ t.due = [] ∧ t.timings = PerStation.all [] ∧ t.pending = s.pending ∧
    ∀ n, t.ports.get n = { State.reset.ports.get n with selHigh := (s.ports.get n).selHigh }

/-! ## Frame timer (spec/01) -/

/-- INTERNAL_TIMER_RUNS_OUT outside LOCKED makes the boundary P after the last one and touches nothing else of the timer
(R2, R5, R7), whatever works of the boundary are taken with it. With none taken, every block's work is left due, which is
the model's form of a boundary (log entry 3). In LOCKED the internal timer does not run (R8); that the command then leaves
the state unchanged is the model's choice (log entry 5). Not here: a boundary that is overdue, and an epoch boundary with a
pending record, of which the next statement speaks. -/
def Obligations.InternalTimerMakesTheBoundary : Prop :=
  ∀ (s : State) (order : List Work),
    let b := s.timer.lastBoundary + s.timer.period
    let made := { s.timer with frame := s.timer.frame + 1, lastBoundary := b, now := b, fsync := true }
    (s.timer.refState ≠ .locked → s.timer.now ≤ b →
      (s.timer.pendingTiming = none ∨ (s.timer.frame + 1).toNat % 16 ≠ 0) →
      (∃ t, exec (.internalTimerRunsOut order) s = .next t ∧ t.timer = made ∧ t.ports = s.ports ∧
        t.pending = s.pending) ∧
      (s.due = [] → exec (.internalTimerRunsOut []) s =
        .next ((s.setTimer made).setDue (boundaryWorks ((s.timer.frame + 1).toNat % 16 == 0))))) ∧
    (s.timer.refState = .locked → exec (.internalTimerRunsOut order) s = .next s)

/-- R14, R3, R17 at an epoch boundary made by the internal timer (R15 at the other causes is in the next three statements):
an equal record is dropped, another is applied as the table of R14 gives, with one TIMING for every station that is JOINED
at that moment. R17, R153: the TIMING of a boundary, whichever of the three rows made it, reaches the queues of those
stations, and of no station that joins after it, with the stamp of that boundary before or after any other block's records,
as a work of the boundary: here after any works that the command takes, and, by a step on an empty queue, before all that
are left. That it waits as a work, and that this step takes it first, is the model's choice (log entries 1, 4 and 24). -/
def Obligations.EpochBoundaryAppliesPendingTiming : Prop :=
  (∀ (s : State) (r : TimingRecord), s.timer.law → s.timer.refState ≠ .locked → s.due = [] →
    (s.timer.frame + 1).toNat % 16 = 0 → s.timer.pendingTiming = some r →
    s.timer.now ≤ s.timer.lastBoundary + s.timer.period →
    let b := s.timer.lastBoundary + s.timer.period
    let made := { s.timer with
      frame := s.timer.frame + 1, lastBoundary := b, now := b, fsync := true, pendingTiming := none }
    (r.period = s.timer.period ∧ r.mode = s.timer.mode →
      exec (.internalTimerRunsOut []) s = .next ((s.setTimer made).setDue (boundaryWorks true))) ∧
    (¬ (r.period = s.timer.period ∧ r.mode = s.timer.mode) →
      let ref : RefState := match r.mode with | .free => .off | .follow => .seeking
      let new := { made with
        period := r.period, mode := r.mode, refState := ref, goodCount := 0, faultCount := 0, anchor := b
        prevEdge := if s.timer.mode = .free ∧ r.mode = .free then s.timer.prevEdge else none }
      exec (.internalTimerRunsOut []) s =
        .next (((s.setTimer new).setTimings (s.timings.map (fun n l =>
          if s.joined n then l ++ [.timing r.period r.mode ref] else l))).setDue (boundaryWorks true)))) ∧
  (∀ (s t : State) (d : Nat) (order : List Work) (row : List Work → Instr), s.due = [] → Work.timing ∈ t.due →
    row ∈ [Instr.internalTimerRunsOut, .substituteDeadline, .frefEdge d] → exec (row order) s = .next t →
    exec (row (order ++ [.timing])) s = .next t.closeLane.timingsTaken) ∧
  (∀ s : State, s.pending = [] → Work.timing ∈ s.due → step s = .next s.closeLane.timingsTaken)

/-- R11, R12: at the substitute deadline a boundary is made, the anchor moves to it and a fault is counted; the third fault
brings LOST, good count 0 and TIMING. R15: at an epoch boundary the pending record follows (`State.atBoundary`). Outside
LOCKED there is no deadline (R11); that the command then leaves the state unchanged is the model's choice (log entry 5).
R11, last part: with a good edge at the very instant of the deadline, in either order one boundary is made; here no pending
record is applied at it. With fewer than two faults standing the fault count is 0 in either order, and the next deadline is
measured from that instant. With two standing and the deadline first, the third fault loses lock and the edge is judged in
LOST, the model's choice where R11 and R12 part (log entry 29). That the works of the boundary are left due, and the arrival
of its TIMING among them, is the model's form of a boundary (log entries 3 and 24). -/
def Obligations.SubstituteDeadlineMakesTheBoundary : Prop :=
  (∀ s : State,
    let d := s.timer.anchor + (s.timer.period + s.timer.period / 64)
    let made := { s.timer with frame := s.timer.frame + 1, lastBoundary := d, anchor := d, now := d, fsync := true }
    (s.timer.refState = .locked → s.due = [] → s.timer.now ≤ d →
      (s.timer.faultCount < 2 → exec (.substituteDeadline []) s =
        .next (s.atBoundary { made with faultCount := s.timer.faultCount + 1 } [])) ∧
      (2 ≤ s.timer.faultCount → exec (.substituteDeadline []) s =
        .next (s.atBoundary { made with faultCount := 3, refState := .lost, goodCount := 0 }
          [.timing s.timer.period s.timer.mode .lost]))) ∧
    (s.timer.refState ≠ .locked → exec (.substituteDeadline []) s = .next s)) ∧
  (∀ (s : State) (e : Nat), s.timer.law → s.due = [] → s.timer.refState = .locked → s.timer.mode = .follow →
    s.timer.prevEdge = some e →
    (s.timer.pendingTiming = none ∨ (s.timer.frame + 1).toNat % 16 ≠ 0) →
    let d := s.timer.anchor + (s.timer.period + s.timer.period / 64)
    s.timer.period - s.timer.period / 64 ≤ d - e → d - e ≤ s.timer.period + s.timer.period / 64 →
    s.timer.now ≤ d → s.timer.lastBoundary ≤ s.timer.anchor →
    ∃ t u v : State, exec (.frefEdge (d - s.timer.now) []) s = .next t ∧
      exec (.substituteDeadline []) s = .next u ∧ exec (.frefEdge 0 []) u = .next v ∧
      t.timer.frame = s.timer.frame + 1 ∧ v.timer.frame = s.timer.frame + 1 ∧
      t.timer.faultCount = 0 ∧ t.timer.lastBoundary = d ∧ v.timer.lastBoundary = d ∧
      t.timer.deadline = d + (s.timer.period + s.timer.period / 64) ∧
      (s.timer.faultCount < 2 → v.timer.faultCount = 0 ∧ v.timer.deadline = t.timer.deadline) ∧
      (2 ≤ s.timer.faultCount → v.timer.refState = .lost ∧ v.timer.faultCount = 3 ∧ v.timer.goodCount = 1 ∧
        v.timer.deadline = d + s.timer.period))

/-- R5, R6, R7: an FREF edge `d` microseconds on, with no boundary of the timer's own on the way. In FREE it is not taken;
without a previous edge it is not judged; in SEEKING and LOST a good edge raises a good count below 3 and a bad edge clears
it. R8: the fourth good interval gains lock. With the last boundary at least P/4 before the edge, the edge makes a boundary,
at which a pending record follows the lock (R15, `State.atBoundary`); else it makes none. The anchor becomes the edge, and
TIMING is raised. That the works of the boundary are left due, and the arrival of its TIMING among them, is the model's form
of a boundary (log entries 3 and 24). -/
def Obligations.EdgesOutsideLockAndTheLockEdge : Prop :=
  (∀ (s : State) (d : Nat), s.due = [] → s.lane.phase = .transferStep → s.timer.now + d ≤ s.timer.deadline →
    let i := s.timer.now + d
    let later := { s.timer with now := i, fsync := s.timer.fsync && d == 0 }
    (s.timer.mode = .free → exec (.frefEdge d []) s = .next (s.setTimer later)) ∧
    (s.timer.mode = .follow → s.timer.prevEdge = none →
      exec (.frefEdge d []) s = .next (s.setTimer { later with prevEdge := some i })) ∧
    (∀ e, s.timer.mode = .follow → s.timer.prevEdge = some e →
      (s.timer.refState = .seeking ∨ s.timer.refState = .lost) →
      let v := min 65535 (i - e)
      let judged := { later with prevEdge := some i, lastInterval := v }
      let good := s.timer.period - s.timer.period / 64 ≤ v ∧ v ≤ s.timer.period + s.timer.period / 64
      (good → s.timer.goodCount < 3 →
        exec (.frefEdge d []) s = .next (s.setTimer { judged with goodCount := s.timer.goodCount + 1 })) ∧
      (¬ good → exec (.frefEdge d []) s = .next (s.setTimer { judged with goodCount := 0 })))) ∧
  (∀ (s : State) (d e : Nat), s.due = [] → s.lane.phase = .transferStep → s.timer.now + d ≤ s.timer.deadline →
    s.timer.mode = .follow → (s.timer.refState = .seeking ∨ s.timer.refState = .lost) →
    s.timer.prevEdge = some e → 3 ≤ s.timer.goodCount →
    let i := s.timer.now + d
    let v := min 65535 (i - e)
    s.timer.period - s.timer.period / 64 ≤ v → v ≤ s.timer.period + s.timer.period / 64 →
    let locked := { s.timer with
      now := i, fsync := s.timer.fsync && d == 0, prevEdge := some i, lastInterval := v, refState := .locked
      goodCount := 0, faultCount := 0, anchor := i }
    let news := Event.timing s.timer.period s.timer.mode .locked
    (s.timer.lastBoundary + s.timer.period / 4 ≤ i →
      exec (.frefEdge d []) s =
        .next (s.atBoundary { locked with frame := s.timer.frame + 1, lastBoundary := i, fsync := true } [news])) ∧
    (i < s.timer.lastBoundary + s.timer.period / 4 →
      exec (.frefEdge d []) s = .next ((s.setTimer locked).told s.joined (stampOf s.timer.frame) news)))

/-- R9, R10, R12: an edge in LOCKED. A good one clears the fault count, moves the anchor, and makes a boundary if the last
one is at least P/4 old, at which a pending record follows (R15, `State.atBoundary`); a bad one counts a fault and makes
none. The third fault loses lock with TIMING, and if P has then elapsed since the last boundary, a boundary is made at once;
that its TIMING carries the frame number from before that boundary is the model's reading (log entry 11), and that it is in
the queues before the boundary, with the TIMING of a record applied there among the boundary's works, is the model's choice
(log entry 32). Model's choice
(log entry 2): an edge beyond the timer's next own boundary finds that boundary made on the way, at its own instant, and the
rest of the time is as for an edge from there. That the works of the boundary are left due, and the arrival of its TIMING
among them, is the model's form of a boundary (log entries 3 and 24). -/
def Obligations.EdgesInLock : Prop :=
  (∀ (s : State) (d e : Nat), s.due = [] → s.lane.phase = .transferStep → s.timer.now + d ≤ s.timer.deadline →
    s.timer.mode = .follow → s.timer.refState = .locked → s.timer.prevEdge = some e →
    let i := s.timer.now + d
    let v := min 65535 (i - e)
    let good := s.timer.period - s.timer.period / 64 ≤ v ∧ v ≤ s.timer.period + s.timer.period / 64
    let judged := { s.timer with
      now := i, fsync := s.timer.fsync && d == 0, prevEdge := some i, lastInterval := v }
    let lost := { judged with faultCount := 3, refState := .lost, goodCount := 0 }
    let told := (s.setTimer lost).told s.joined (stampOf s.timer.frame) (.timing s.timer.period s.timer.mode .lost)
    (good → s.timer.lastBoundary + s.timer.period / 4 ≤ i →
      exec (.frefEdge d []) s =
        .next (s.atBoundary { judged with
          faultCount := 0, anchor := i, frame := s.timer.frame + 1, lastBoundary := i, fsync := true } [])) ∧
    (good → i < s.timer.lastBoundary + s.timer.period / 4 →
      exec (.frefEdge d []) s = .next (s.setTimer { judged with faultCount := 0, anchor := i })) ∧
    (¬ good → s.timer.faultCount < 2 →
      exec (.frefEdge d []) s = .next (s.setTimer { judged with faultCount := s.timer.faultCount + 1 })) ∧
    (¬ good → 2 ≤ s.timer.faultCount → i < s.timer.lastBoundary + s.timer.period →
      exec (.frefEdge d []) s = .next told) ∧
    (¬ good → 2 ≤ s.timer.faultCount → s.timer.lastBoundary + s.timer.period ≤ i →
      exec (.frefEdge d []) s =
        .next (told.atBoundary { lost with frame := s.timer.frame + 1, lastBoundary := i, fsync := true } []))) ∧
  (∀ (s : State) (d : Nat) (order : List Work), s.timer.law → s.due = [] → s.timer.now ≤ s.timer.deadline →
    s.timer.deadline < s.timer.now + d →
    let own := if s.timer.refState = .locked then Instr.substituteDeadline [] else .internalTimerRunsOut []
    ∃ t, exec own s = .next t ∧ t.timer.now = s.timer.deadline ∧
      exec (.frefEdge d order) s = exec (.frefEdge (s.timer.now + d - s.timer.deadline) order) t)

/-- R13: SET TIMING from the coordinator stages a pending timing record, or is refused outside the ranges. R16: READ FRAME
answers with the timer's values and changes nothing. Either comes after the TIMING of a boundary already made (the model's
choice, log entry 24). -/
def Obligations.SetTimingAndReadFrame : Prop :=
  (∀ (s : State) (p : Station) (hi lo m : Byte), s.selected p → s.joined p = true →
    s.registry.coordinator = some p →
    let u := s.timingFirst
    let period := (word16 hi lo).toNat
    ((100 ≤ period ∧ period ≤ 20000) ∧ (m = 0 ∨ m = 1) →
      exec (.setTiming p (requestFrame 0x0A [hi, lo, m])) s =
        .next ((u.setTimer { u.timer with
            pendingTiming := some { period := period, mode := if m = 0 then .free else .follow } }).replied p 0x0A
          [hi, lo, m] { status := .ok, results :=
            [byte (16 - s.timer.frame.toNat % 16), if s.timer.pendingTiming.isSome then 1 else 0] })) ∧
    (¬ ((100 ≤ period ∧ period ≤ 20000) ∧ (m = 0 ∨ m = 1)) →
      exec (.setTiming p (requestFrame 0x0A [hi, lo, m])) s =
        .next (u.replied p 0x0A [hi, lo, m] { status := .badOperand, results := [] }))) ∧
  (∀ (s : State) (p : Station), s.selected p → s.present p = true →
    let out : List Byte :=
        bytes32 s.timer.frame ++ bytes16 (BitVec.ofNat 16 s.timer.period) ++
        [(match s.timer.mode with | .free => (0 : Byte) | .follow => 1),
         (match s.timer.refState with | .off => (0 : Byte) | .seeking => 1 | .locked => 2 | .lost => 3)] ++
        bytes16 (BitVec.ofNat 16 s.timer.lastInterval) ++
        [byte s.timer.faultCount, byte (16 - s.timer.frame.toNat % 16)] ++
        (match s.timer.pendingTiming with
          | none => [(0 : Byte), 0, 0, 0]
          | some r => 1 :: bytes16 (BitVec.ofNat 16 r.period) ++
              [(match r.mode with | .free => (0 : Byte) | .follow => 1)])
    exec (.readFrame p (requestFrame 0x06 [])) s =
      .next (s.timingFirst.replied p 0x06 [] { status := .ok, results := out }))

/-! ## Station registry (spec/02) -/

/-- R20: the table of the requester check, on a request that the port lets through. READ IDENTITY and READ STATUS pass from
every state. -/
def Obligations.RequesterCheckTable : Prop :=
  ∀ (s : State) (p : Station) (r : Request) (ops : List Byte), s.selected p → r.lengthOk ops.length = true →
    let refused := fun st => exec (r.instr p (requestFrame r.code ops)) s =
      .next (s.replied p r.code ops { status := st, results := [] })
    let open3 : List Request := [.join, .readStatus, .readIdentity]
    let leavers : List Request := [.readStatus, .readFrame, .readIdentity, .detach, .publish, .readSlot, .drainRing,
      .takeMessage, .peekMessage, .ack, .queueStatus, .takeEvent]
    ((s.station p).state = .joined → r = .join → refused .already) ∧
    ((s.station p).state = .leaving → r = .join → refused .already) ∧
    ((s.station p).state = .leaving → r ≠ .join → r ∉ leavers → refused .leaving) ∧
    ((s.station p).state = .lapsed → r ∉ open3 → refused .lapsed) ∧
    ((s.station p).state = .absent → r ∉ open3 → refused .notJoined)

/-- R32: a coordinator request from a JOINED station that does not hold the role is refused and changes nothing. R29: what
EVICT refuses from the coordinator, each time without effect, after the TIMING of a boundary already made (the model's choice,
log entry 24). -/
def Obligations.CoordinatorRequestRefusals : Prop :=
  (∀ (s : State) (p : Station) (r : Request) (ops : List Byte), s.selected p → r.lengthOk ops.length = true →
    s.joined p = true → s.registry.coordinator ≠ some p →
    r ∈ [Request.setTiming, .setLane, .setLease, .evict, .forceRelease] →
    exec (r.instr p (requestFrame r.code ops)) s =
      .next (s.replied p r.code ops { status := .notCoordinator, results := [] })) ∧
  (∀ (s : State) (p : Station) (x : Byte), s.selected p → s.joined p = true → s.registry.coordinator = some p →
    let refused := fun st => exec (.evict p (requestFrame 0x0D [x])) s =
      .next (s.timingFirst.replied p 0x0D [x] { status := st, results := [] })
    (x = 0 ∨ 5 ≤ x.toNat → refused .badOperand) ∧ (x = stationByte p → refused .self) ∧
    (∀ n, n ≠ p → x = stationByte n → s.present n = false → refused .noEntry))

/-- R22, R23, R21: JOIN from a station that is not JOINED or LEAVING, under a name no other member holds, makes it a member
and tells the others; under a held name it is refused. R25: a JOIN that finds its station's countdown of the boundary still
due takes the new frame number and is not counted down at that boundary (log entry 6). R17, R153: the TIMING of a boundary
already made is in the queues before the records of the JOIN, and not in the joiner's (log entry 24). -/
def Obligations.JoinMakesAMember : Prop :=
  ∀ (s : State) (p : Station) (a b c d : Byte), s.selected p → s.present p = false →
    let u := s.timingFirst
    let ops := [a, b, c, d]
    let name := operand32 ops 0
    let f := s.timer.frame
    let r := s.station p
    let taken := ∃ n, n ≠ p ∧ s.present n = true ∧ (s.station n).name = name
    (¬ taken → exec (.join p (requestFrame 0x01 ops)) s =
      .next ((((u.setDue (u.due.erase (.lease p))).setStation p { r with
          state := .joined, name := name, leasePeriod := s.registry.leaseSetting
          leaseCounter := s.registry.leaseSetting, token := f.setWidth 8, seqCounter := 0 }).told
          (fun n => n ≠ p && s.joined n) (stampOf f) (.stationChanged p .joined .none)).replied p 0x01 ops
        { status := .ok, results :=
          [stationByte p, f.setWidth 8, byte s.registry.leaseSetting,
           (match r.state with | .absent => 0 | .joined => 1 | .leaving => 2 | .lapsed => 3),
           (match r.cause with | .none => 0 | .left => 1 | .detached => 2 | .leaseExpired => 3 | .evicted => 4),
           (match s.registry.resetCause with | .powerOn => 0 | .pin => 1)] ++ bytes32 f })) ∧
    (taken → exec (.join p (requestFrame 0x01 ops)) s =
      .next (u.replied p 0x01 ops { status := .nameTaken, results := [] }))

/-- R24: RENEW with the lease token restores the lease and changes the token; with another it changes nothing. R25: a RENEW
that finds its station's countdown of the boundary still due carries the new frame number in its token, so the countdown is
taken first (log entry 6): with LEASE_LOW at 8, or with the lapse at 0, after which the RENEW is refused with LAPSED. A RENEW
that is not refused so comes after the TIMING of that boundary too (log entry 24). -/
def Obligations.RenewRestoresTheLease : Prop :=
  ∀ (s : State) (p : Station) (tok : Byte), s.selected p → s.joined p = true →
    let w := s.closeLane
    let k := (s.station p).leaseCounter
    let counted := (w.setDue (w.due.erase (.lease p))).setStation p { s.station p with leaseCounter := k - 1 }
    let v :=
      if Work.lease p ∉ s.due then w
      else if k = 9 then counted.told (fun n => n = p) (stampOf s.timer.frame) (.leaseLow 8)
      else counted
    let u := if Work.timing ∈ s.due then v.timingsTaken else v
    let low := s.timer.frame.setWidth 8
    let new := if low = tok then tok + 1 else low
    let period := s.registry.leaseSetting
    new ≠ tok ∧
    (Work.lease p ∉ s.due ∨ 2 ≤ k →
      (tok = (s.station p).token → exec (.renew p (requestFrame 0x04 [tok])) s =
        .next ((u.setStation p { u.station p with token := new, leasePeriod := period, leaseCounter := period }).replied
          p 0x04 [tok] { status := .ok, results := [new, byte period, byte period] })) ∧
      (tok ≠ (s.station p).token → exec (.renew p (requestFrame 0x04 [tok])) s =
        .next (u.replied p 0x04 [tok] { status := .badToken, results := [] }))) ∧
    (Work.lease p ∈ s.due → k = 1 → w.membershipLaw → exec (.renew p (requestFrame 0x04 [tok])) s =
      .next (((w.setDue (w.due.erase (.lease p))).withoutStation p .lapsed .leaseExpired
        (stampOf s.timer.frame)).replied p 0x04 [tok] { status := .lapsed, results := [] }))

/-- R25, R2: the lease countdown of station n, taken at a boundary that the internal timer makes. A JOINED station's counter
falls by 1, with LEASE_LOW at 8; another station's counter stays. -/
def Obligations.LeaseCountdownAtABoundary : Prop :=
  ∀ (s : State) (n : Station), s.timer.refState ≠ .locked → s.due = [] → s.lane.phase = .transferStep →
    s.timer.now ≤ s.timer.lastBoundary + s.timer.period →
    (s.timer.pendingTiming = none ∨ (s.timer.frame + 1).toNat % 16 ≠ 0) →
    let b := s.timer.lastBoundary + s.timer.period
    let made := s.setTimer { s.timer with frame := s.timer.frame + 1, lastBoundary := b, now := b, fsync := true }
    let rest := (boundaryWorks ((s.timer.frame + 1).toNat % 16 == 0)).erase (.lease n)
    let k := (s.station n).leaseCounter
    let counted := made.setStation n { s.station n with leaseCounter := k - 1 }
    (s.joined n = true → 2 ≤ k → k ≠ 9 →
      exec (.internalTimerRunsOut [.lease n]) s = .next (counted.setDue rest)) ∧
    (s.joined n = true → k = 9 →
      exec (.internalTimerRunsOut [.lease n]) s =
        .next ((counted.told (fun m => m = n) (stampOf (s.timer.frame + 1)) (.leaseLow 8)).setDue rest)) ∧
    (s.joined n = false → exec (.internalTimerRunsOut [.lease n]) s = .next (made.setDue rest))

/-- R26, R28, R29, R27: DETACH, EVICT and a lease that runs out are one event that takes the station out of every block, with
the records of R153 in their order; every role of the station is marked RELEASE_DUE and ORPHANED and no other role changes
(R44). All of the records carry one stamp, that of the frame number in force; while works of a
boundary are due, that is the boundary's (log entry 6, the model's reading of "at the moment"). DETACH and EVICT come after
the TIMING of a boundary already made, so their records stand behind it (R153; log entry 24). -/
def Obligations.AbruptDepartureIsOneEvent : Prop :=
  (∀ (s : State) (p : Station), s.selected p → s.present p = true → s.timingFirst.membershipLaw →
    let u := s.timingFirst
    exec (.detach p (requestFrame 0x03 [])) s =
      .next ((u.withoutStation p .absent .detached (stampOf s.timer.frame)).replied p 0x03 []
        { status := .ok, results := [if s.joined p then 1 else 2] })) ∧
  (∀ (s : State) (p n : Station), s.selected p → s.joined p = true → s.registry.coordinator = some p → n ≠ p →
    s.present n = true → s.timingFirst.membershipLaw →
    let u := s.timingFirst
    exec (.evict p (requestFrame 0x0D [stationByte n])) s =
      .next ((u.withoutStation n .lapsed .evicted (stampOf s.timer.frame)).replied p 0x0D [stationByte n]
        { status := .ok, results := [if s.joined n then 1 else 2] })) ∧
  (∀ (s : State) (n : Station), Work.lease n ∈ s.due → s.joined n = true → (s.station n).leaseCounter = 1 →
    s.closeLane.membershipLaw →
    let u := s.closeLane
    exec (.leaseExpiry n) s =
      .next ((u.setDue (u.due.erase (.lease n))).withoutStation n .lapsed .leaseExpired (stampOf s.timer.frame)))

/-- R30: an accepted LEAVE is one event, with its three counts in the response. R43: every role of the station is marked
RELEASE_DUE with ORPHANED as it was, and no other role changes. Its records carry the stamp of the frame number in force
(log entry 6). That a LEAVE is taken before its own station's countdown still due is the model's choice (log entry 30). R31
and R43 give what a LEAVE before and after an epoch boundary meets; that it counts as after once the commit or any work of
the registry at that boundary is taken, another station's countdown among them, so that this boundary's examination passes
the station by, is the model's reading (log entry 6). R157: the TIMING of a boundary already made is in the queues before
the station is LEAVING, and none comes to it after (log entry 24). -/
def Obligations.LeaveBeginsLeaving : Prop :=
  ∀ (s : State) (p : Station), s.selected p → s.joined p = true → s.timingFirst.membershipLaw →
    let u := s.timingFirst
    let early := ∀ w ∈ [Work.lease .s1, .lease .s2, .lease .s3, .lease .s4, .commit, .leaving .s1, .leaving .s2,
      .leaving .s3, .leaving .s4], w ∈ u.due
    let v := if early then u else u.setDue (u.due.erase (.leaving p))
    exec (.leave p (requestFrame 0x02 [])) s =
      .next ((v.withLeaving p (stampOf s.timer.frame)).replied p 0x02 [] { status := .ok, results :=
        [byte ((u.lane.queue p .urgent).length + (u.lane.queue p .normal).length), byte (quotaCount u.changes p),
         if u.lane.inFlightAt p then 1 else 0] })

/-- R31: at the examination of an epoch boundary a station in LEAVING with no transfer to or from it in flight becomes
ABSENT in every block; with one in flight it stays, and the command leaves the state unchanged, the work still due (the
model's choice, log entry 5). That the deferred station is kept is the model's reading (log entry 17), no sentence of R31. -/
def Obligations.EndOfLeavingTakesTheStationOut : Prop :=
  ∀ (s : State) (n : Station), Work.leaving n ∈ s.due → (s.station n).state = .leaving →
    s.closeLane.membershipLaw →
    let u := s.closeLane
    (u.lane.inFlightAt n = false →
      exec (.endOfLeaving n) s =
        .next ((u.setDue (u.due.erase (.leaving n))).withLeft n (stampOf s.timer.frame))) ∧
    (u.lane.inFlightAt n = true → exec (.endOfLeaving n) s = .next s)

/-- R33, R34, R35: the coordinator role is claimed while it is free and resigned by its holder, each with COORDINATOR_CHANGED
to every JOINED station; every other CLAIM COORDINATOR or RESIGN is refused without effect. The stamp is that of the frame
number in force, also while works of a boundary are due (log entry 6); the TIMING of that boundary comes first (log entry
24). -/
def Obligations.CoordinatorRoleClaimedAndResigned : Prop :=
  ∀ (s : State) (p : Station), s.selected p → s.joined p = true →
    let u := s.timingFirst
    let st := stampOf s.timer.frame
    (s.registry.coordinator = none → exec (.claimCoordinator p (requestFrame 0x08 [])) s =
      .next (((u.setCoordinator (some p)).told s.joined st (.coordinatorChanged (some p))).replied p 0x08 []
        { status := .ok, results := [] })) ∧
    (∀ h, s.registry.coordinator = some h → h ≠ p → exec (.claimCoordinator p (requestFrame 0x08 [])) s =
      .next (u.replied p 0x08 [] { status := .held, results := [stationByte h] })) ∧
    (s.registry.coordinator = some p → exec (.claimCoordinator p (requestFrame 0x08 [])) s =
      .next (u.replied p 0x08 [] { status := .already, results := [] })) ∧
    (s.registry.coordinator = some p → exec (.resign p (requestFrame 0x09 [])) s =
      .next (((u.setCoordinator none).told s.joined st (.coordinatorChanged none)).replied p 0x09 []
        { status := .ok, results := [] })) ∧
    (s.registry.coordinator ≠ some p → exec (.resign p (requestFrame 0x09 [])) s =
      .next (u.replied p 0x09 [] { status := .notCoordinator, results := [] }))

/-- R36: SET LEASE from the coordinator writes the setting at once, after the TIMING of a boundary already made (log entry
24), or is refused outside 8 to 255. R136: SET LANE writes the pending lane settings, or is refused outside the ranges. -/
def Obligations.SetLeaseAndSetLane : Prop :=
  (∀ (s : State) (p : Station) (x : Byte), s.selected p → s.joined p = true → s.registry.coordinator = some p →
    let u := s.timingFirst
    (8 ≤ x.toNat → exec (.setLease p (requestFrame 0x0C [x])) s =
      .next ((u.setRegistry { u.registry with leaseSetting := x.toNat }).replied p 0x0C [x]
        { status := .ok, results := [byte s.registry.leaseSetting] })) ∧
    (x.toNat < 8 → exec (.setLease p (requestFrame 0x0C [x])) s =
      .next (u.replied p 0x0C [x] { status := .badOperand, results := [] }))) ∧
  (∀ (s : State) (p : Station) (x y : Byte), s.selected p → s.joined p = true → s.registry.coordinator = some p →
    let u := s.closeLane
    let fits := 8 ≤ x.toNat ∧ x.toNat ≤ 64 ∧ 1 ≤ y.toNat
    (fits → exec (.setLane p (requestFrame 0x0B [x, y])) s =
      .next ((u.setLane { u.lane with pending := some { budget := x.toNat, holdLimit := y.toNat } }).replied p 0x0B
        [x, y] { status := .ok, results :=
          [byte u.lane.settings.budget, byte u.lane.settings.holdLimit,
           if u.lane.pending.isSome then 1 else 0] })) ∧
    (¬ fits → s.refuses p .setLane [x, y] .badOperand))

/-- R37: READ STATUS from every state. It reads at one moment, with every work of the last boundary done (log entry 18). -/
def Obligations.ReadStatusReportsOneMoment : Prop :=
  ∀ (s : State) (p : Station), s.selected p →
    let u := s.closeLane.settle
    let own := fun (n : Nat) => if u.present p then byte n else (0 : Byte)
    let state := fun (n : Station) =>
      match (u.station n).state with | .absent => (0 : Byte) | .joined => 1 | .leaving => 2 | .lapsed => 3
    let out : List Byte :=
        [state .s1, state .s2, state .s3, state .s4] ++
        bytes32 (if u.present .s1 then (u.station .s1).name else 0) ++
        bytes32 (if u.present .s2 then (u.station .s2).name else 0) ++
        bytes32 (if u.present .s3 then (u.station .s3).name else 0) ++
        bytes32 (if u.present .s4 then (u.station .s4).name else 0) ++
        [(match u.registry.coordinator with | none => 0 | some h => stationByte h), byte u.registry.leaseSetting,
         own (u.station p).leaseCounter, byte (u.station p).leasePeriod,
         (match (u.station p).cause with
           | .none => (0 : Byte) | .left => 1 | .detached => 2 | .leaseExpired => 3 | .evicted => 4),
         own (u.lane.queue p .urgent).length, own (u.lane.queue p .normal).length, own (u.lane.rx.get p).length,
         own (u.lane.reserved p), own (u.rings.get p).entries.length, own (u.events.get p).count]
    exec (.readStatus p (requestFrame 0x05 [])) s =
      .next (u.replied p 0x05 [] { status := .ok, results := out })

/-! ## Slot allocator (spec/03, spec/04) -/

/-- R58, R59: CLAIM SLOT, with room in the list and in the quota. Each check is made against the projected map. The stage
stamp and the frames until application of an entry staged while a commit is due are those of the frame before (R65, log
entry 6). -/
def Obligations.ClaimSlotStagesOrRefuses : Prop :=
  ∀ (s : State) (p : Station) (x : Byte), s.selected p → s.joined p = true →
    let m := s.closeLane.projected
    let held := producerCount m p
    let free := fun k => (mapEntry m k).producer = none ∧ (mapEntry m k).consumedBy p = false
    s.closeLane.changes.length < 24 → quotaCount s.closeLane.changes p < 8 →
    (∀ k, k < 48 → x.toNat = k →
      (free k → held < 16 → s.stages p .claimSlot [x] (some p) .claim k) ∧
      (free k → 16 ≤ held → s.refuses p .claimSlot [x] .limit) ∧
      ((mapEntry m k).producer = none → (mapEntry m k).consumedBy p = true → s.refuses p .claimSlot [x] .self) ∧
      ((mapEntry m k).producedBy p = true → s.refuses p .claimSlot [x] .already) ∧
      ((mapEntry m k).producer ≠ none → (mapEntry m k).producedBy p = false → s.refuses p .claimSlot [x] .slotHeld)) ∧
    (x = 0xFF →
      (∀ k, k < 48 → free k → (∀ j < k, ¬ free j) →
        (held < 16 → s.stages p .claimSlot [x] (some p) .claim k) ∧
        (16 ≤ held → s.refuses p .claimSlot [x] .limit)) ∧
      ((∀ k < 48, ¬ free k) → s.refuses p .claimSlot [x] .slotHeld))

/-- R60, R61, R62, R63: the other staging requests, with room in the list and, where it counts, in the quota. -/
def Obligations.OtherStagingRequests : Prop :=
  ∀ (s : State) (p : Station) (x : Byte) (k : Nat), s.selected p → s.joined p = true → k < 48 → x.toNat = k →
    s.closeLane.changes.length < 24 →
    let e := mapEntry s.closeLane.projected k
    (quotaCount s.closeLane.changes p < 8 →
      (e.producedBy p = true → s.stages p .releaseSlot [x] (some p) .release k) ∧
      (e.producedBy p = false → s.refuses p .releaseSlot [x] .notOwner) ∧
      (e.consumedBy p = true → s.stages p .unsubscribe [x] (some p) .unsubscribe k) ∧
      (e.consumedBy p = false → s.refuses p .unsubscribe [x] .notSubscribed) ∧
      (∀ (y : Byte) (mode : LogMode),
        y = (match mode with | .none => (0 : Byte) | .every => 1 | .fresh => 2) →
        let same := e.consumers.any (fun c => c.station == p && c.mode == mode)
        (e.producedBy p = true → s.refuses p .subscribe [x, y] .self) ∧
        (e.producedBy p = false → same = true → s.refuses p .subscribe [x, y] .already) ∧
        (e.producedBy p = false → e.consumedBy p = false → 3 ≤ e.consumers.length →
          s.refuses p .subscribe [x, y] .limit) ∧
        (e.producedBy p = false → same = false → (e.consumedBy p = true ∨ e.consumers.length < 3) →
          s.stages p .subscribe [x, y] (some p) (.subscribe mode) k))) ∧
    (s.registry.coordinator = some p →
      (e.producer ≠ none → s.stages p .forceRelease [x] none .forceRelease k) ∧
      (e.producer = none → s.refuses p .forceRelease [x] .noEntry))

/-- R57, R54: the common checks of the five staging requests in their order: operand, room in the list, quota. -/
def Obligations.StagingChecksInOrder : Prop :=
  ∀ (s : State) (p : Station) (r : Request) (x y : Byte), s.selected p → s.joined p = true →
    r ∈ [Request.claimSlot, .releaseSlot, .subscribe, .unsubscribe, .forceRelease] →
    (r = .forceRelease → s.registry.coordinator = some p) →
    let ops := if r = .subscribe then [x, y] else [x]
    let inRange := (x.toNat < 48 ∨ (r = .claimSlot ∧ x = 0xFF)) ∧ (r = .subscribe → y.toNat ≤ 2)
    (¬ inRange → s.refuses p r ops .badOperand) ∧
    (inRange → 24 ≤ s.closeLane.changes.length → s.refuses p r ops .listFull) ∧
    (inRange → s.closeLane.changes.length < 24 → r ≠ .forceRelease → 8 ≤ quotaCount s.closeLane.changes p →
      s.refuses p r ops .quota)

/-- Section 4.3: "An entry accepted at staging would therefore be applied if nothing changed before the commit". The rules of
R48 and R70 to R74 are written out in `State.mapAfter` and `Change.outcome`. -/
def Obligations.AcceptedEntriesWouldApply : Prop :=
  ∀ (s t : State) (p : Station) (r : Request) (ops : List Byte) (c : Change), s.selected p → s.joined p = true →
    r ∈ [Request.claimSlot, .releaseSlot, .subscribe, .unsubscribe, .forceRelease] → r.lengthOk ops.length = true →
    exec (r.instr p (requestFrame r.code ops)) s = .next t → t.changes = s.closeLane.changes ++ [c] →
    c.check s.closeLane.projected = .ok ∧
    (c.outcome (s.closeLane.mapAfter s.closeLane.changes.length)).1 = .ok

/-- R56, R41, R48, R69 to R74, R86, R87: the epoch commit leaves the projected map as the active map and an empty list: every
role marked RELEASE_DUE removed, then each entry of the list applied or failed by the rule of its kind (`State.mapAfter`,
`Change.outcome`, which write the rules out). A slot whose
producer a removal or an applied CLAIM, RELEASE or FORCE_RELEASE changes is cleared with the boundary's stamp, and every
other slot keeps its exchange state. R49, R69, R71, R72, R75: the records of the commit, at each station in the order of the
removals in slot order and then of the list, SLOT_LOST and SLOT_VACATED of an entry before its CHANGE_DONE, which goes to the
origin, or to the coordinator for a FORCED entry. The commit is taken by a step on an empty queue as the one work due (the
model's choice, log entry 1). -/
def Obligations.CommitGivesTheProjectedMap : Prop :=
  (∀ s : State, s.projected = s.mapAfter s.changes.length) ∧
  (∀ s : State, s.pending = [] → s.due = [.commit] → s.lane.phase = .transferStep → s.slots.length = 48 →
    s.slotMap.length = 48 →
    let st := stampOf s.timer.frame
    let result := fun (x : Change × Nat) => (x.1.outcome (s.mapAfter x.2)).1
    let vacated := fun (k : Nat) (m : Station) (l : List Consumer) =>
      (l.filter (fun c => c.station = m)).map (fun _ => Event.slotVacated k)
    let ofRemovals := fun (m : Station) => s.slotMap.zipIdx.flatMap (fun y =>
      match y.1.producer with
      | some { releaseDue := true, .. } => vacated y.2 m (y.1.consumers.filter (fun c => c.releaseDue = false))
      | _ => [])
    let ofChange := fun (m : Station) (x : Change × Nat) =>
      let e := (s.mapAfter x.2).getD x.1.slot { producer := none, consumers := [] }
      let owner := match x.1.origin with | some n => some n | none => s.registry.coordinator
      (if result x = .ok then
        match x.1.kind, e.producer with
        | .release, _ => vacated x.1.slot m e.consumers
        | .forceRelease, some q =>
          (if q.station = m then [Event.slotLost x.1.slot] else []) ++ vacated x.1.slot m e.consumers
        | _, _ => []
      else []) ++
      (if owner = some m then [.changeDone x.1.id x.1.kind.shown x.1.slot (result x)] else [])
    let newProducer := fun (k : Nat) => ∃ x ∈ s.changes.zipIdx, x.1.slot = k ∧ result x = .ok ∧
      (x.1.kind = .claim ∨ x.1.kind = .release ∨ x.1.kind = .forceRelease)
    let removed := fun (k : Nat) => (s.entry k).producer.any (fun q => q.releaseDue) = true
    ∃ t, step s = .next t ∧ t.slotMap = s.mapAfter s.changes.length ∧
      t.changes = [] ∧ t.due = [] ∧ t.timer = s.timer ∧
      t.registry = s.registry ∧ t.rings = s.rings ∧ t.lane = s.lane ∧ t.acks = s.acks ∧ t.ports = s.ports ∧
      (∀ k < 48, (removed k ∨ newProducer k) →
        t.slot k = { buffer := 0, written := false, delivered := none, age := 0, fresh := false, stamp := st }) ∧
      (∀ k < 48, ¬ removed k → ¬ newProducer k → t.slot k = s.slot k) ∧
      (∀ m, t.events.get m =
        if s.present m then
          (s.events.get m).appendAll (stamped st (ofRemovals m ++ s.changes.zipIdx.flatMap (ofChange m)))
        else s.events.get m))

/-- R66: WITHDRAW. -/
def Obligations.WithdrawRemovesOneEntry : Prop :=
  ∀ (s : State) (p : Station) (x : Byte), s.selected p → s.joined p = true → s.closeLane.changesLaw →
    let u := s.closeLane
    (∀ c ∈ u.changes, c.id = x.toNat →
      (c.origin = some p ∨ (c.origin = none ∧ s.registry.coordinator = some p) →
        exec (.withdraw p (requestFrame 0x14 [x])) s =
          .next ((u.setChanges (u.changes.filter (fun d => d.id ≠ x.toNat))).replied p 0x14 [x]
            { status := .ok, results := [c.kind.shown.onLink, byte c.slot] })) ∧
      (∀ n, c.origin = some n → n ≠ p → s.refuses p .withdraw [x] .noEntry) ∧
      (c.origin = none → s.registry.coordinator ≠ some p → s.refuses p .withdraw [x] .notCoordinator)) ∧
    ((∀ c ∈ u.changes, c.id ≠ x.toNat) → s.refuses p .withdraw [x] .noEntry)

/-- R67: LIST CHANGES lists the requester's own entries, and the FORCED ones for the coordinator, each with the result it
gives against the projection of the entries before it. R51: READ MAP reports an entry of the active map. The unused bits of
a flag byte in the results are 0, the model's choice (log entry 27). -/
def Obligations.ListChangesAndReadMapReport : Prop :=
  (∀ (s : State) (p : Station), s.selected p → s.joined p = true →
    let u := s.closeLane
    let listed := u.changes.zipIdx.filter (fun x =>
      x.1.origin = some p ∨ (x.1.origin = none ∧ s.registry.coordinator = some p))
    let record := fun (x : Change × Nat) =>
      [byte x.1.id, (match x.1.origin with | none => (0 : Byte) | some n => stationByte n), x.1.kind.shown.onLink,
       byte x.1.slot, (match x.1.kind with | .subscribe .every => (1 : Byte) | .subscribe .fresh => 2 | _ => 0)] ++
      bytes16 x.1.stamp ++ [(x.1.outcome (u.mapAfter x.2)).1.onLink]
    let out := [byte u.changes.length, byte (quotaCount u.changes p), byte (16 - (u.frameAt .commit).toNat % 16),
      byte listed.length] ++ listed.flatMap record
    exec (.listChanges p (requestFrame 0x15 [])) s = .next (u.replied p 0x15 [] { status := .ok, results := out })) ∧
  (∀ (s : State) (p : Station) (x : Byte), s.selected p → s.joined p = true →
    let u := s.closeLane
    let e := u.entry x.toNat
    let flags := fun (due orphaned : Bool) => ((if due then 1 else 0) + (if orphaned then 2 else 0) : Byte)
    let out := [x] ++
      (match e.producer with | none => [(0 : Byte), 0] | some q => [stationByte q.station, flags q.releaseDue q.orphaned]) ++
      [byte e.consumers.length] ++
      e.consumers.flatMap (fun c => [stationByte c.station,
        (match c.mode with | .none => (0 : Byte) | .every => 1 | .fresh => 2), flags c.releaseDue c.orphaned]) ++
      [byte (u.changes.filter (fun c => c.slot = x.toNat)).length, byte (16 - (u.frameAt .commit).toNat % 16)]
    (x.toNat < 48 → exec (.readMap p (requestFrame 0x16 [x])) s =
      .next (u.replied p 0x16 [x] { status := .ok, results := out })) ∧
    (48 ≤ x.toNat → s.refuses p .readMap [x] .badOperand))

/-! ## Slot exchange (spec/05, spec/06) -/

/-- R78, R79: a PUBLISH whose every pair names a slot that the requester produces with a live role writes them all; the last
pair of a slot stands. Otherwise the first failing pair decides, and nothing is written. -/
def Obligations.PublishWritesAllOrNothing : Prop :=
  ∀ (s : State) (p : Station) (l : List (Byte × Byte × Byte)), s.selected p → s.present p = true →
    1 ≤ l.length → l.length ≤ 8 → s.slots.length = 48 →
    let u := s.closeLane
    let ops := l.flatMap (fun x => [x.1, x.2.1, x.2.2])
    let out := [byte (l.map (fun x => x.1)).dedup.length] ++ bytes16 (stampOf (u.frameAt .latch))
    let passes := fun (x : Byte × Byte × Byte) => x.1.toNat < 48 ∧ (u.entry x.1.toNat).liveProducer p = true
    ((∀ x ∈ l, passes x) → ∃ slots : List SlotState,
      slots.length = 48 ∧
      (∀ k < 48, slots.getD k resetSlot =
        match l.reverse.find? (fun x => x.1.toNat = k) with
        | some x => { u.slot k with buffer := word16 x.2.1 x.2.2, written := true }
        | none => u.slot k) ∧
      exec (.publish p (requestFrame 0x20 ops)) s =
        .next ((u.setSlots slots).replied p 0x20 ops { status := .ok, results := out })) ∧
    (∀ (before after : List (Byte × Byte × Byte)) (x : Byte × Byte × Byte), l = before ++ x :: after →
      (∀ y ∈ before, passes y) → ¬ passes x →
      exec (.publish p (requestFrame 0x20 ops)) s =
        .next (u.replied p 0x20 ops { status := if x.1.toNat < 48 then .notOwner else .badOperand,
                                      results := [byte (before.length + 1)] }))

/-- R89, R90: READ SLOT answers a live producer or a live consumer of the slot and nobody else. The unused bits of a flag
byte in the results are 0, the model's choice (log entry 27). -/
def Obligations.ReadSlotAnswersRoleHoldersOnly : Prop :=
  ∀ (s : State) (p : Station) (x : Byte), s.selected p → s.present p = true →
    let u := s.closeLane
    let e := u.entry x.toNat
    let y := u.slot x.toNat
    let allowed := e.liveProducer p = true ∨ e.liveConsumer p = true
    let flags : Byte := (if y.delivered.isSome then 1 else 0) + (if y.fresh then 2 else 0)
    let out := [x, flags] ++ bytes16 (match y.delivered with | none => 0 | some w => w) ++
      [byte y.age, (match e.producer with | none => (0 : Byte) | some q => if q.orphaned then 2 else 1)] ++ bytes16 y.stamp
    (x.toNat < 48 → allowed → exec (.readSlot p (requestFrame 0x21 [x])) s =
      .next (u.replied p 0x21 [x] { status := .ok, results := out })) ∧
    (x.toNat < 48 → ¬ allowed → s.refuses p .readSlot [x] .notSubscribed) ∧
    (48 ≤ x.toNat → s.refuses p .readSlot [x] .badOperand)

/-- R82, R83, R84, R85: the latch of a boundary, by the slot's producer at that moment. R93 (its table is `entryMade`), R94,
R96, R98: the entries that one latch makes for a ring join it in slot order while it has room, the first with the pending gap
count; the others are dropped and counted; RING_LEVEL and RING_DROPPING are raised in that order. The latch is taken by a
step on an empty queue as the one work due (the model's choice, log entry 1). That it leaves the publish buffer value as it
was, with the written flag clear, is the model's choice (log entry 31). -/
def Obligations.LatchFollowsTheProducerAndLogsInSlotOrder : Prop :=
  (∀ s : State, s.pending = [] → s.due = [.latch] → s.lane.phase = .transferStep → s.slots.length = 48 →
    ∃ t, step s = .next t ∧ t.slotMap = s.slotMap ∧ t.changes = s.changes ∧ t.timer = s.timer ∧
      t.registry = s.registry ∧ t.lane = s.lane ∧ t.acks = s.acks ∧ t.ports = s.ports ∧ t.due = [] ∧
      t.slots.length = 48 ∧
      ∀ k < 48,
        let x := s.slot k
        let older := if x.age < 255 then x.age + 1 else 255
        (∀ q, (s.entry k).producer = some q → q.orphaned = false → x.written = true →
          t.slot k = { x with delivered := some x.buffer, age := 0, fresh := true, stamp := stampOf s.timer.frame,
                              written := false }) ∧
        (∀ q, (s.entry k).producer = some q → q.orphaned = false → x.written = false →
          t.slot k = { x with age := older, fresh := false }) ∧
        (∀ q, (s.entry k).producer = some q → q.orphaned = true →
          t.slot k = { x with age := older, fresh := false, written := false }) ∧
        ((s.entry k).producer = none →
          t.slot k = { x with delivered := none, age := 0, fresh := false, written := false })) ∧
  (∀ (s : State) (n : Station), s.pending = [] → s.due = [.latch] → s.lane.phase = .transferStep → s.mapLaw →
    s.exchangeLaw → ∃ t, step s = .next t ∧
      let r := s.rings.get n
      let made := s.latchEntries t n
      let room := 64 - r.entries.length
      let count := r.entries.length + (made.take room).length
      let run := if room = 0 then r.gap else 0
      let level := if r.entries.length < r.watermark ∧ r.watermark ≤ count then [Event.ringLevel r.watermark] else []
      let dropping := if room < made.length ∧ run = 0 then [Event.ringDropping] else []
      (t.rings.get n).entries = r.entries ++ withGap r.gap (made.take room) ∧
      (t.rings.get n).gap = (if made = [] then r.gap else min 255 (run + (made.length - room))) ∧
      (t.rings.get n).watermark = r.watermark ∧
      t.events.get n =
        if s.present n then (s.events.get n).appendAll (stamped (stampOf s.timer.frame) (level ++ dropping))
        else s.events.get n)

/-- R96, R98: one entry appended to a ring or dropped, and the record it raises. -/
def Obligations.RingAppendOrDrop : Prop :=
  ∀ (s : State) (n : Station) (e : RingEntry), s.present n = true →
    let r := s.rings.get n
    let joined := { r with entries := r.entries ++ [{ e with gap := r.gap }], gap := 0 }
    let me := fun m => decide (m = n)
    (r.entries.length < 64 → r.entries.length + 1 ≠ r.watermark → s.appendRing n e = s.setRing n joined) ∧
    (r.entries.length < 64 → r.entries.length + 1 = r.watermark →
      s.appendRing n e = (s.setRing n joined).told me e.stamp (.ringLevel r.watermark)) ∧
    (64 ≤ r.entries.length → r.gap = 0 →
      s.appendRing n e = (s.setRing n { r with gap := 1 }).told me e.stamp .ringDropping) ∧
    (64 ≤ r.entries.length → 1 ≤ r.gap → r.gap ≤ 255 →
      s.appendRing n e = s.setRing n { r with gap := min 255 (r.gap + 1) })

/-- R100, R99: DRAIN RING removes and returns the oldest entries; SET WATERMARK writes the level. The unused bits of a flag
byte in the results are 0, the model's choice (log entry 27). -/
def Obligations.DrainRingAndSetWatermark : Prop :=
  ∀ (s : State) (p : Station) (x : Byte), s.selected p →
    let u := s.closeLane
    let r := u.rings.get p
    let n := x.toNat
    let record := fun (e : RingEntry) => [byte e.slot] ++ bytes16 e.stamp ++
      [((if e.value.isSome then 1 else 0) + (if e.fresh then 2 else 0) : Byte)] ++
      bytes16 (match e.value with | none => 0 | some w => w) ++ [byte e.gap]
    let out := [byte (min n r.entries.length)] ++ (r.entries.take n).flatMap record ++
      [byte (r.entries.length - n), byte r.gap]
    (s.present p = true → 1 ≤ n → n ≤ 8 → r.entries ≠ [] →
      exec (.drainRing p (requestFrame 0x22 [x])) s =
        .next ((u.setRing p { r with entries := r.entries.drop n }).replied p 0x22 [x]
          { status := .ok, results := out })) ∧
    (s.present p = true → 1 ≤ n → n ≤ 8 → r.entries = [] →
      exec (.drainRing p (requestFrame 0x22 [x])) s =
        .next (u.replied p 0x22 [x] { status := .empty, results := [0, byte r.gap] })) ∧
    (s.present p = true → n = 0 ∨ 8 < n → s.refuses p .drainRing [x] .badOperand) ∧
    (s.joined p = true → 1 ≤ n → n ≤ 63 →
      exec (.setWatermark p (requestFrame 0x23 [x])) s =
        .next ((u.setRing p { r with watermark := n }).replied p 0x23 [x]
          { status := .ok, results := [byte r.watermark, byte r.entries.length] })) ∧
    (s.joined p = true → n = 0 ∨ 63 < n → s.refuses p .setWatermark [x] .badOperand)

/-! ## Message lane (spec/07, spec/08) -/

/-- R103, R104, R105, R108, R140: an accepted POST puts its message at the tail of its class queue under the first sequence
number that no acknowledgement entry of the sender holds, and makes the entry if acknowledgement is asked for. While the
lane's work of a boundary is due, the post stamp is that of the frame before (log entry 6). -/
def Obligations.PostQueuesTheMessage : Prop :=
  ∀ (s : State) (p : Station) (dest : Option Station) (cls : MsgClass) (flags tag timeout : Byte) (payload : List Byte),
    s.selected p → s.joined p = true → 1 ≤ payload.length → payload.length ≤ 60 → dest ≠ some p →
    let u := s.closeLane
    let wanted := flags.getLsbD 0
    let queue := u.lane.queue p cls
    let ops := [(match dest with | none => (0 : Byte) | some n => stationByte n),
      (match cls with | .normal => (0 : Byte) | .urgent => 1), flags, tag, timeout, byte payload.length] ++ payload
    (wanted = true → timeout ≠ 0 ∧ dest ≠ none ∧ (u.acks.get p).length < 4) →
    (match dest with | none => ∃ n, n ≠ p ∧ s.joined n = true | some n => s.joined n = true) →
    queue.length < (match cls with | .urgent => 4 | .normal => 8) → (u.acks.get p).length ≤ 4 →
    ∃ (seq : Byte) (k : Nat), k ≤ 4 ∧ seq = (s.station p).seqCounter + BitVec.ofNat 8 k ∧
      (∀ a ∈ u.acks.get p, a.seq ≠ seq) ∧
      (∀ j < k, ∃ a ∈ u.acks.get p, a.seq = (s.station p).seqCounter + BitVec.ofNat 8 j) ∧
      let m : Message := { source := p, dest := dest, cls := cls, tag := tag, seq := seq,
                           ackTimeout := if wanted then some timeout.toNat else none, payload := payload,
                           stamp := stampOf (u.frameAt .lane), hold := 0, posted := u.lane.nextPosted }
      let v := (u.setLane { u.lane.setTxQueue p cls (queue ++ [m]) with
          nextPosted := u.lane.nextPosted + 1 }).setStation p { u.station p with seqCounter := seq + 1 }
      let w := match wanted, dest with
        | true, some n => v.setAckList p (u.acks.get p ++
            [({ seq := seq, tag := tag, dest := n, timeout := timeout.toNat, state := .queued } : AckEntry)])
        | _, _ => v
      exec (.post p (requestFrame 0x30 ops)) s =
        .next (w.replied p 0x30 ops { status := .ok, results := [seq, byte (queue.length + 1)] })

/-- R108: the checks of POST in their order, on a POST whose length byte the port accepts. -/
def Obligations.PostChecksInOrder : Prop :=
  ∀ (s : State) (p : Station) (d c flags tag timeout len : Byte) (payload : List Byte), s.selected p →
    s.joined p = true → 1 ≤ payload.length → payload.length ≤ 60 →
    let u := s.closeLane
    let ops := [d, c, flags, tag, timeout, len] ++ payload
    let wanted := flags.getLsbD 0
    let formed := len.toNat = payload.length ∧ d.toNat ≤ 4 ∧ d ≠ stationByte p ∧ c.toNat ≤ 1 ∧
      (wanted = true → timeout ≠ 0 ∧ d ≠ 0)
    let peer := (d = 0 → ∃ n, n ≠ p ∧ s.joined n = true) ∧ (∀ n, d = stationByte n → s.joined n = true)
    let room := if c = 1 then (u.lane.queue p .urgent).length < 4 else (u.lane.queue p .normal).length < 8
    (¬ formed → s.refuses p .post ops .badOperand) ∧ (formed → ¬ peer → s.refuses p .post ops .noPeer) ∧
    (formed → peer → ¬ room → s.refuses p .post ops .queueFull) ∧
    (formed → peer → room → wanted = true → 4 ≤ (u.acks.get p).length → s.refuses p .post ops .tableFull)

/-- R110, R131, R132, R143: CANCEL removes the requester's oldest undelivered message with the tag, from its queue or from the
lane, and the acknowledgement entry that follows it; without one it is refused. -/
def Obligations.CancelRemovesTheOldestWithTheTag : Prop :=
  ∀ (s : State) (p : Station) (tag : Byte), s.selected p → s.joined p = true →
    let u := s.closeLane
    let mine := u.lane.queue p .urgent ++ u.lane.queue p .normal ++
      (match u.lane.transfer with | none => [] | some t => if t.msg.source = p then [t.msg] else [])
    (∀ m ∈ mine, m.source = p) → (mine.map (fun m => m.posted)).Nodup →
    (∀ m ∈ u.lane.queue p .urgent, m.cls = .urgent) → (∀ m ∈ u.lane.queue p .normal, m.cls = .normal) →
    (∀ m ∈ mine, m.tag = tag → (∀ g ∈ mine, g.tag = tag → m.posted ≤ g.posted) →
      let acks := if m.ackTimeout.isSome then (u.acks.get p).filter (fun a => a.seq ≠ m.seq) else u.acks.get p
      let answer := fun (w : Byte) => { status := Status.ok, results := [m.seq, w] : Reply }
      let keep := fun (g : Message) => decide (g.posted ≠ m.posted)
      (m ∈ u.lane.queue p .urgent → exec (.cancel p (requestFrame 0x31 [tag])) s =
        .next (((u.setLane (u.lane.setTxQueue p .urgent ((u.lane.queue p .urgent).filter keep))).setAckList p
          acks).replied p 0x31 [tag] (answer 0))) ∧
      (m ∈ u.lane.queue p .normal → exec (.cancel p (requestFrame 0x31 [tag])) s =
        .next (((u.setLane (u.lane.setTxQueue p .normal ((u.lane.queue p .normal).filter keep))).setAckList p
          acks).replied p 0x31 [tag] (answer 1))) ∧
      (∀ t, u.lane.transfer = some t → m = t.msg → exec (.cancel p (requestFrame 0x31 [tag])) s =
        .next (((u.setLane { u.lane with transfer := none }).setAckList p acks).replied p 0x31 [tag] (answer 2)))) ∧
    ((∀ m ∈ mine, m.tag ≠ tag) → s.refuses p .cancel [tag] .noEntry)

/-- R113, R114: TAKE MESSAGE removes and returns the oldest delivered copy, PEEK MESSAGE shows the same copy and removes
nothing; with none delivered both answer EMPTY. R115: QUEUE STATUS reports the requester's queues and the transfer from or
to it. The unused bits of a flag byte in the results are 0, the model's choice (log entry 27). -/
def Obligations.ReceiveQueueRequests : Prop :=
  (∀ (s : State) (p : Station), s.selected p → s.present p = true →
    let u := s.closeLane
    let reserved := match u.lane.transfer with | none => (0 : Byte) | some t => if p ∈ t.dests then 1 else 0
    let copy := fun (c : Copy) (left : Byte) =>
      [stationByte c.msg.source, (match c.msg.dest with | none => (0 : Byte) | some n => stationByte n),
       (match c.msg.cls with | .normal => (0 : Byte) | .urgent => 1),
       (match c.msg.ackTimeout with | none => (0 : Byte) | some _ => 1), c.msg.tag, c.msg.seq,
       (match c.msg.ackTimeout with | none => (0 : Byte) | some t => byte t)] ++
      bytes16 c.msg.stamp ++ bytes16 c.delivered ++ [left, reserved, byte c.msg.payload.length] ++ c.msg.payload
    let empty : Reply := { status := .empty, results := [0, reserved] }
    (u.lane.rx.get p = [] →
      exec (.takeMessage p (requestFrame 0x32 [])) s = .next (u.replied p 0x32 [] empty) ∧
      exec (.peekMessage p (requestFrame 0x33 [])) s = .next (u.replied p 0x33 [] empty)) ∧
    (∀ c rest, u.lane.rx.get p = c :: rest →
      exec (.takeMessage p (requestFrame 0x32 [])) s =
        .next ((u.setLane { u.lane with rx := u.lane.rx.set p rest }).replied p 0x32 []
          { status := .ok, results := copy c (byte rest.length) }) ∧
      exec (.peekMessage p (requestFrame 0x33 [])) s =
        .next (u.replied p 0x33 [] { status := .ok, results := copy c (byte (rest.length + 1)) }))) ∧
  (∀ (s : State) (p : Station), s.selected p → s.present p = true →
    let l := s.closeLane.lane
    let hold := fun c => match l.queue p c with | [] => (0 : Byte) | m :: _ => byte m.hold
    let (reserved, direction, left) : Byte × Byte × Byte := match l.transfer with
      | none => (0, 0, 0)
      | some t =>
        (if p ∈ t.dests then 1 else 0,
         (if t.msg.source = p then 1 else 0) + (if p ∈ t.dests then 2 else 0),
         if t.msg.source = p ∨ p ∈ t.dests then byte t.remaining else 0)
    exec (.queueStatus p (requestFrame 0x35 [])) s =
      .next (s.closeLane.replied p 0x35 [] { status := .ok, results :=
        [byte (l.queue p .urgent).length, byte (l.queue p .normal).length, hold .urgent, hold .normal,
         byte (l.rx.get p).length, reserved, direction, left, if l.deferred = some p then 1 else 0] }))

/-- R120, R121, R122, R127, R136, R142: TRANSFER_DELIVERY at a boundary whose transfer step completes the transfer, under
the settings then in force: copies, MESSAGE_ARRIVED, SENT, DELIVERED, deferral of a NORMAL sender, and a free lane for the
arbitration that comes next. While bytes remain the event does not come about (log entry 5). R121, R137: a transfer step
that does not complete the transfer moves the budget and ends the lane's work, with the idle indicator clear; here the
lane's work is taken by a step on an empty queue as the one work due (the model's choice, log entry 1). The stages of the
lane's work are the model's (log entry 7). -/
def Obligations.TransferStepMovesBytesAndDelivers : Prop :=
  (∀ (s : State) (t : Transfer), Work.lane ∈ s.due → s.lane.phase = .transferStep → s.lane.transfer = some t →
    let set := match s.lane.pending with | none => s.lane.settings | some x => x
    let st := stampOf s.timer.frame
    let g := t.msg
    let copies := s.lane.rx.map (fun n q => if n ∈ t.dests then q ++ [{ msg := g, delivered := st }] else q)
    let entries := s.acks.map (fun n l =>
      if n = g.source ∧ g.ackTimeout.isSome = true then
        l.map (fun a => if a.seq = g.seq ∧ a.state = .inFlight then { a with state := .delivered a.timeout st } else a)
      else l)
    let news := fun (n : Station) =>
      (if n ∈ t.dests then [Event.messageArrived g.source g.cls g.tag] else []) ++
      (if n = g.source then [Event.sent g.tag g.seq] else [])
    (t.remaining ≤ set.budget → exec .transferDelivery s =
      .next { s with
        lane := { s.lane with
          settings := set, pending := none, rx := copies, transfer := none, phase := .arbitration
          deferred := if g.cls = .normal then some g.source else s.lane.deferred }
        acks := entries
        events := s.events.map (fun n q => if s.present n then q.appendAll (stamped st (news n)) else q) }) ∧
    (set.budget < t.remaining → exec .transferDelivery s = .next s)) ∧
  (∀ (s : State) (t : Transfer), s.pending = [] → s.due = [.lane] → s.lane.phase = .transferStep →
    s.lane.transfer = some t →
    let set := match s.lane.pending with | none => s.lane.settings | some x => x
    set.budget < t.remaining →
    step s = .next { s with
      lane := { s.lane with
        settings := set, pending := none, idle := false
        transfer := some { t with remaining := t.remaining - set.budget } }
      due := [] })

/-- R120 (log entry 7): lane work of a boundary that is half done when a request comes is finished first. It touches the
lane (but not the receive queues), the acknowledgement table and the event queues alone, and the works due; with none half
done nothing is finished. R120, R153: so it is before an FREF edge in FOLLOW, whose TIMING then stands after the lane's
records. -/
def Obligations.FinishingLaneWorkTouchesLaneAcksAndEventsAlone : Prop :=
  ∀ s : State, let u := s.closeLane
    (s.lane.phase = .transferStep → u = s) ∧
    (s.lane.phase ≠ .transferStep → u.lane.phase = .transferStep ∧ u.due = s.due.erase .lane) ∧
    u.timer = s.timer ∧ u.registry = s.registry ∧ u.slotMap = s.slotMap ∧ u.changes = s.changes ∧
    u.slots = s.slots ∧ u.rings = s.rings ∧ u.lane.rx = s.lane.rx ∧ u.ports = s.ports ∧ u.timings = s.timings ∧
    u.pending = s.pending ∧
    (s.timer.mode = .follow → ∀ order, exec (.frefEdge 0 order) s = exec (.frefEdge 0 order) u)

/-- R120, R123, R124, R125, R126, R141: LANE_GRANT with the lane free, the settings of the boundary applied first (R136)
unless its transfer step is already taken: the head granted is eligible, no URGENT head is eligible if it is NORMAL, and no
station searched before it has an eligible head of its class. The heads blocked for room are judged before the grant (R123,
R128). A LANE_GRANT whose boundary completes a transfer is one after its TRANSFER_DELIVERY. The stages of the lane's work
are the model's (log entry 7). -/
def Obligations.LaneGrantFollowsTheSearch : Prop :=
  (∀ (s : State) (n : Station) (cls : MsgClass) (m : Message) (rest : List Message),
    Work.lane ∈ s.due → (s.lane.phase = .transferStep ∨ s.lane.phase = .arbitration) → s.lane.transfer = none →
    s.lane.queue n cls = m :: rest → m.source = n →
    let order := [s.lane.pointer.next, s.lane.pointer.next.next, s.lane.pointer.next.next.next, s.lane.pointer]
    s.headEligible n cls = true → (cls = .normal → ∀ k, s.headEligible k .urgent = false) →
    (∀ before after, order = before ++ n :: after → ∀ k ∈ before, s.headEligible k cls = false) →
    let dests := match m.dest with
      | some d => [d]
      | none => [Station.s1, .s2, .s3, .s4].filter (fun k => k ≠ n && s.joined k)
    let entries := s.acks.map (fun k l =>
      if k = n ∧ m.ackTimeout.isSome = true then
        l.map (fun a => if a.seq = m.seq ∧ a.state = .queued then { a with state := .inFlight } else a)
      else l)
    let lane := { s.lane.setTxQueue n cls rest with
      transfer := some { msg := m, dests := dests, remaining := m.payload.length + 4 }, pointer := n
      deferred := if s.lane.deferred = some n then some n else none, phase := .holdCount s.headsBlocked }
    (s.lane.phase = .arbitration ∨ s.lane.pending = none →
      exec .laneGrant s = .next { s with lane := lane, acks := entries }) ∧
    (∀ x, s.lane.phase = .transferStep → s.lane.pending = some x →
      exec .laneGrant s = .next { s with lane := { lane with settings := x, pending := none }, acks := entries })) ∧
  (∀ (s t : State) (x : Transfer), Work.lane ∈ s.due → s.lane.phase = .transferStep → s.lane.transfer = some x →
    x.remaining ≤ (match s.lane.pending with | none => s.lane.settings.budget | some y => y.budget) →
    exec .transferDelivery s = .next t → (∃ n cls, t.headEligible n cls = true) →
    exec .laneGrant s = exec .laneGrant t)

/-- R128, R129, R120: the hold count of a boundary: every blocked head is raised, those that reach the limit are returned
with UNDELIVERABLE (HOLD_EXPIRED), and the lane's work ends. It follows the arbitration, or, where that grants nothing,
comes with it and with the settings of the boundary (R136). HOLD_EXPIRED is that hold count when it returns a head; when it
returns none, a step on an empty queue takes it as the one work due (the model's choice, log entry 1). After a grant,
HOLD_EXPIRED is one after the LANE_GRANT. The stages of the lane's work are the model's (log entry 7). -/
def Obligations.HoldExpiredReturnsTheHead : Prop :=
  (∀ (s : State) (blocked : List (Station × MsgClass)), Work.lane ∈ s.due →
    (s.lane.phase = .holdCount blocked ∨
      ((s.lane.phase = .transferStep ∨ s.lane.phase = .arbitration) ∧ s.lane.transfer = none ∧
        (∀ n cls, s.headEligible n cls = false) ∧ blocked = s.headsBlocked)) →
    blocked.Nodup → (∀ n c, ∀ m ∈ s.lane.queue n c, m.source = n) →
    let fresh := match s.lane.phase, s.lane.pending with
      | .transferStep, some x => some x
      | _, _ => none
    let settings := match fresh with | some x => x | none => s.lane.settings
    let raised := fun (m : Message) => min 255 (m.hold + 1)
    let expired := fun (x : Station × MsgClass) => match s.lane.queue x.1 x.2 with
      | [] => []
      | m :: _ => if settings.holdLimit ≤ raised m then [m] else []
    let queue := fun n c =>
      if (n, c) ∈ blocked then
        match s.lane.queue n c with
        | [] => []
        | m :: rest => if settings.holdLimit ≤ raised m then rest else { m with hold := raised m } :: rest
      else s.lane.queue n c
    let gone := fun n => (blocked.filter (fun x => x.1 = n)).flatMap expired
    let t := { s with
      lane := { s.lane with
        tx := s.lane.tx.map (fun n _ => { urgent := queue n .urgent, normal := queue n .normal })
        settings := settings, pending := if fresh.isSome then none else s.lane.pending
        idle := s.lane.transfer.isNone, phase := .transferStep }
      acks := s.acks.map (fun n l => withoutFollowers (gone n) l)
      events := s.events.map (fun n q =>
        if s.present n then
          q.appendAll (stamped (stampOf s.timer.frame)
            ((gone n).map (fun m => Event.undeliverable m.tag m.seq .holdExpired)))
        else q)
      due := s.due.erase .lane }
    ((∃ x ∈ blocked, expired x ≠ []) → exec .holdExpired s = .next t) ∧
    (s.pending = [] → s.due = [.lane] → step s = .next t)) ∧
  (∀ s t : State, Work.lane ∈ s.due → (s.lane.phase = .transferStep ∨ s.lane.phase = .arbitration) →
    exec .laneGrant s = .next t → t ≠ s → (∃ u, exec .holdExpired t = .next u ∧ u ≠ t) →
    exec .holdExpired s = exec .holdExpired t)

/-! ## Acknowledgement table (spec/09) -/

/-- R145, R146: ACK of a delivered message resolves its entry with ACKED to the source, stamped with the frame in progress;
for an entry of an earlier boundary whose countdown is still due that is the frame before the boundary (R146, log entry 6).
LATE and BAD_OPERAND change nothing. -/
def Obligations.AckResolvesADeliveredEntry : Prop :=
  ∀ (s : State) (p n : Station) (seq : Byte), s.selected p → s.present p = true → s.closeLane.acksLaw →
    let u := s.closeLane
    let ops := [stationByte n, seq]
    let fits := fun (a : AckEntry) => a.seq = seq ∧ a.dest = p ∧ ∃ r st, a.state = .delivered r st
    let now := stampOf s.timer.frame
    let stamp := fun (a : AckEntry) => match a.state with
      | .delivered _ d => if d = now ∨ Work.ack ∉ u.due then now else stampOf (s.timer.frame - 1)
      | _ => now
    (∀ a ∈ u.acks.get n, n ≠ p → s.present n = true → fits a →
      exec (.ack p (requestFrame 0x34 ops)) s =
        .next (((u.setAckList n ((u.acks.get n).filter (fun b => b.seq ≠ seq))).told (fun m => m = n)
          (stamp a) (.acked seq a.tag)).replied p 0x34 ops { status := .ok, results := [a.tag] })) ∧
    (n ≠ p → (∀ a ∈ u.acks.get n, ¬ fits a) → s.refuses p .ack ops .late) ∧
    (n = p → s.refuses p .ack ops .badOperand) ∧
    (∀ x : Byte, x = 0 ∨ 5 ≤ x.toNat → s.refuses p .ack [x, seq] .badOperand)

/-- R144: the countdown of a boundary: every DELIVERED entry of an earlier boundary is lowered, those that reach 0 are
removed with UNACKED (TIMEOUT), senders in station order, entries in list order. Here it is taken at a boundary that the
internal timer makes, whether an entry reaches 0 or not. ACK_TIMEOUT is that countdown when it brings an entry to 0; when it
brings none, the command leaves the state unchanged (the model's choice, log entry 5). -/
def Obligations.AckTimeoutCountsDown : Prop :=
  let expired := fun (st : Stamp) (a : AckEntry) => match a.state with
    | .delivered r d => decide (d ≠ st ∧ r ≤ 1)
    | _ => false
  let lower := fun (st : Stamp) (a : AckEntry) => match a.state with
    | .delivered r d => if d = st then a else { a with state := .delivered (r - 1) d }
    | _ => a
  let counted := fun (s : State) (st : Stamp) => { s with
    acks := s.acks.map (fun _ l => (l.filter (fun a => !expired st a)).map (lower st))
    events := s.events.map (fun n q =>
      if s.present n then
        q.appendAll (stamped st
          (((s.acks.get n).filter (expired st)).map (fun (a : AckEntry) => Event.unacked a.seq a.tag .timeout)))
      else q) }
  (∀ s : State, Work.ack ∈ s.due → s.lane.phase = .transferStep →
    let st := stampOf s.timer.frame
    ((∃ n, ∃ a ∈ s.acks.get n, expired st a = true) →
      exec .ackTimeout s = .next ((counted s st).setDue (s.due.erase .ack))) ∧
    ((∀ n, ∀ a ∈ s.acks.get n, expired st a = false) → exec .ackTimeout s = .next s)) ∧
  (∀ s : State, s.timer.refState ≠ .locked → s.due = [] → s.lane.phase = .transferStep →
    s.timer.now ≤ s.timer.lastBoundary + s.timer.period →
    (s.timer.pendingTiming = none ∨ (s.timer.frame + 1).toNat % 16 ≠ 0) →
    let b := s.timer.lastBoundary + s.timer.period
    let made := s.setTimer { s.timer with frame := s.timer.frame + 1, lastBoundary := b, now := b, fsync := true }
    exec (.internalTimerRunsOut [.ack]) s =
      .next ((counted made (stampOf (s.timer.frame + 1))).setDue
        ((boundaryWorks ((s.timer.frame + 1).toNat % 16 == 0)).erase .ack)))

/-! ## Event queues (spec/10) -/

/-- R151, R152: a record raised to a member joins its queue, or makes the lost-events record, or is counted in it; raised to
a station in ABSENT or LAPSED it is discarded. The mask plays no part. -/
def Obligations.RecordsAreQueuedCountedOrDiscarded : Prop :=
  ∀ (s : State) (n : Station) (st : Stamp) (e : Event),
    let q := s.events.get n
    let t := s.raise n st e
    (s.present n = false → t = s) ∧
    (s.present n = true → q.lost = none → q.records.length ≤ 14 →
      t = s.setQueue n { q with records := q.records ++ [{ stamp := st, event := e }] }) ∧
    (s.present n = true → q.lost = none → 15 ≤ q.records.length →
      t = s.setQueue n { q with lost := some { stamp := st, count := 1 } }) ∧
    (∀ x, s.present n = true → q.lost = some x →
      t = s.setQueue n { q with lost := some { x with count := min 255 (x.count + 1) } })

/-- R154, R171, R172: TAKE EVENT removes and returns the head record, with the kind number of section 10.2 and the detail
bytes of R171 (`Event.onLink` writes out both); the lost-events record is the last. -/
def Obligations.TakeEventRemovesTheHead : Prop :=
  ∀ (s : State) (p : Station), s.selected p → s.present p = true →
    let u := s.closeLane
    let q := u.events.get p
    let lostCount := match q.lost with | none => 0 | some _ => 1
    let first := fun (r : EventRecord) (left : Nat) =>
      [byte r.event.onLink.1] ++ bytes16 r.stamp ++ r.event.onLink.2 ++ [byte left]
    let last := fun (x : LostEvents) => [(0x10 : Byte)] ++ bytes16 x.stamp ++ [byte x.count, 0, 0, 0, 0]
    (∀ r rest, q.records = r :: rest → exec (.takeEvent p (requestFrame 0x38 [])) s =
      .next ((u.setQueue p { q with records := rest }).replied p 0x38 []
        { status := .ok, results := first r (rest.length + lostCount) })) ∧
    (∀ x, q.records = [] → q.lost = some x → exec (.takeEvent p (requestFrame 0x38 [])) s =
      .next ((u.setQueue p { q with lost := none }).replied p 0x38 []
        { status := .ok, results := last x })) ∧
    (q.records = [] → q.lost = none → exec (.takeEvent p (requestFrame 0x38 [])) s =
      .next (u.replied p 0x38 [] { status := .empty, results := [0] })) ∧
    (∀ e : Event, e.kind = e.onLink.1 ∧ e.details = e.onLink.2 ∧ e.onLink.2.length = 4)

/-- R155, R156: SET MASK writes the mask at once, and ATN# then follows from the queue and the new mask; bit 15 may not be
set. -/
def Obligations.SetMaskGovernsAttention : Prop :=
  ∀ (s : State) (p : Station) (hi lo : Byte), s.selected p → s.joined p = true →
    let u := s.closeLane
    let q := u.events.get p
    let mask := word16 hi lo
    let out := bytes16 (q.mask.setWidth 16) ++ [byte q.count]
    (hi.getLsbD 7 = false → ∃ t, exec (.setMask p (requestFrame 0x39 [hi, lo])) s = .next t ∧
      t = (u.setQueue p { q with mask := mask.setWidth 15 }).replied p 0x39 [hi, lo]
        { status := .ok, results := out } ∧
      (t.attention p = true ↔
        q.lost ≠ none ∨ ∃ r ∈ q.records, mask.getLsbD (r.event.onLink.1 - 1) = false)) ∧
    (hi.getLsbD 7 = true → s.refuses p .setMask [hi, lo] .badOperand)

/-! ## Station ports (spec/11) -/

/-- R162: the four examples of the check byte. R162, R164: a request with exactly one bit of its operands or check byte
changed is answered BAD_CHECK. -/
def Obligations.CheckByteCatchesOneWrongBit : Prop :=
  (crc [0x05, 0x00] = 0x41 ∧ crc [0x38, 0x00] = 0x51 ∧ crc [0x02, 0x01, 0x00] = 0xC3 ∧ crc [0x10, 0x00] = 0x57) ∧
  (∀ (s : State) (p : Station) (code x y : Byte) (a b : List Byte) (i : Nat), s.selected p → i < 8 →
    a.length + b.length < 255 → y = x ^^^ BitVec.twoPow 8 i →
    let good := requestFrame code (a ++ x :: b)
    exec (.unknownRequest p code { operands := a ++ y :: b, check := good.check }) s =
      .next (s.replied p code (a ++ y :: b) { status := .badCheck, results := [] }) ∧
    exec (.unknownRequest p code { good with check := good.check ^^^ BitVec.twoPow 8 i }) s =
      .next (s.replied p code (a ++ x :: b) { status := .badCheck, results := [] }))

/-- R164: the port's checks in their order: check byte, code, length. -/
def Obligations.PortChecksInOrder : Prop :=
  ∀ (s : State) (p : Station) (ops : List Byte), s.selected p → ops.length ≤ 255 →
    (∀ (code chk : Byte), chk ≠ (requestFrame code ops).check →
      exec (.unknownRequest p code { operands := ops, check := chk }) s =
        .next (s.replied p code ops { status := .badCheck, results := [] })) ∧
    (∀ (r : Request) (chk : Byte), chk ≠ (requestFrame r.code ops).check →
      exec (r.instr p { operands := ops, check := chk }) s =
        .next (s.replied p r.code ops { status := .badCheck, results := [] })) ∧
    (∀ code : Byte, (∀ r : Request, r.code ≠ code) →
      exec (.unknownRequest p code (requestFrame code ops)) s =
        .next (s.replied p code ops { status := .badRequest, results := [] })) ∧
    (∀ r : Request, r.lengthOk ops.length = false →
      exec (r.instr p (requestFrame r.code ops)) s =
        .next (s.replied p r.code ops { status := .badLength, results := [] }))

/-- R173: READ IDENTITY from every state, with every byte of its exchange. -/
def Obligations.ReadIdentityAnswersTheFixedValues : Prop :=
  ∀ (s : State) (p : Station), s.selected p →
    ∃ t, exec (.readIdentity p (requestFrame 0x07 [])) s = .next t ∧
      t = s.replied p 0x07 [] { status := .ok, results := [0x2E, 0x17, 0x01, 0xB4, 0x01] } ∧
      frameBytes 0x07 (requestFrame 0x07 []) = [0x07, 0x00, crc [0x07, 0x00]] ∧
      (t.ports.get p).response = some
        { status := 0x00, length := 0x05, results := [0x2E, 0x17, 0x01, 0xB4, 0x01],
          check := crc [0x00, 0x05, 0x2E, 0x17, 0x01, 0xB4, 0x01], position := 0 }

/-- R159, R160: a falling edge of SEL# selects the port, from any phase; a port whose SEL# stands low has none. A rising
edge ends the selection, and SDO is then undriven. What the port holds of operands, count, check and response is cleared at
the rise, the model's choice (log entry 28). -/
def Obligations.SelectionStartsAndEnds : Prop :=
  ∀ (s : State) (p : Station),
    let q := s.ports.get p
    (q.selHigh = true → ∃ t, exec (.selectionStart p) s = .next t ∧ t.selected p ∧
      t = s.setPort p { q with phase := .code, bits := [], operands := [], opCount := 0, check := 0,
                               response := none, seenHigh := true, selHigh := false } ∧
      (t.ports.get p).sdo = some false) ∧
    (q.selHigh = false → exec (.selectionStart p) s = .next s) ∧
    (∃ t, exec (.selectionEnd p []) s = .next t ∧
      t = s.setPort p { q with phase := .idle, bits := [], operands := [], opCount := 0, check := 0,
                               response := none, seenHigh := true, selHigh := true } ∧
      (t.ports.get p).sdo = none)

/-- R166, R167: bits that fall short of a whole request, then the end of the selection or a clock that comes too soon:
nothing but the port changes. R165, R167: in RESPONSE each clock presents the next bit of the response, whatever SDI; after
the last the port is in TRAILING and presents 0; a clock that comes too soon gives 1 from then on. That the response and the
bits in progress are dropped at such a clock and the response at the rise, and that a clock that comes too soon straight
after the selection starts counts as one, are the model's choice (log entries 28 and 26). -/
def Obligations.ResponsesAndUnfinishedRequests : Prop :=
  (∀ (s : State) (p : Station) (code : Byte) (f : Frame) (sdi : List Bool), s.selected p → f.operands.length ≤ 255 →
    sdi <+: bytesBits (frameBytes code f) → sdi.length < (bytesBits (frameBytes code f)).length →
    (∃ q : Port, exec (.selectionEnd p sdi) s = .next (s.setPort p q) ∧ q.phase = .idle ∧ q.bits = [] ∧
      q.response = none ∧ q.sdo = none ∧ q.selHigh = true) ∧
    (∃ q : Port, exec (.selectionOverrun p sdi) s = .next (s.setPort p q) ∧ q.phase = .overrun ∧
      q.response = none ∧ q.sdo = some true)) ∧
  (∀ (s : State) (p : Station) (r : Response) (sdi : List Bool), (s.ports.get p).phase = .response →
    (s.ports.get p).response = some r → r.position = 0 →
    (sdi.length < (responseBits r).length →
      ((s.clockBits p sdi).ports.get p).sdo = some ((responseBits r).getD sdi.length false)) ∧
    ((responseBits r).length ≤ sdi.length →
      ((s.clockBits p sdi).ports.get p).phase = .trailing ∧
      ((s.clockBits p sdi).ports.get p).sdo = some false) ∧
    (∃ q, exec (.selectionOverrun p sdi) s = .next (s.setPort p q) ∧ q.sdo = some true) ∧
    (∃ q, exec (.selectionEnd p sdi) s = .next (s.setPort p q) ∧ q.phase = .idle ∧ q.response = none))

/-! ## The laws that every step keeps -/

/-- The frame timer keeps its ranges, and OFF goes with FREE (spec/01; R1, R5, R6, R7, R12). The registry keeps the ranges of
its lease values, and no two JOINED or LEAVING stations hold the same name (spec/02, section 2.1). -/
def Obligations.StepKeepsTheTimerAndRegistryLaws : Prop :=
  (∀ s t : State, s.timer.law → step s = .next t → t.timer.law) ∧
  (∀ s t : State, s.registryLaw → step s = .next t → t.registryLaw)

/-- R39: no station produces more than 16 slots or both produces and consumes one. R41: the producer and consumer sets of the
active map change only at an epoch commit or a hub reset. A step runs at most one command; where that is no hub reset, no
commit is due, and no frame number it reaches is an epoch boundary's, the sets stay. An FREF edge beyond 2^32 boundaries is
left out, since the frame number then comes round. -/
def Obligations.StepKeepsTheMapLaw : Prop :=
  (∀ s t : State, s.mapLaw → step s = .next t → t.mapLaw) ∧
  (∀ s t : State, step s = .next t → Work.commit ∉ s.due → (∀ k, s.pending.head? ≠ some (.hubReset k)) →
    (∀ d order, s.pending.head? = some (.frefEdge d order) → d + 1 < 2 ^ 32) →
    (∀ j, 1 ≤ j → j ≤ (t.timer.frame - s.timer.frame).toNat → (s.timer.frame.toNat + j) % 16 ≠ 0) →
    roleSets t.slotMap = roleSets s.slotMap)

/-- R54: at most 24 entries with distinct ids, at most 8 of one origin. -/
def Obligations.StepKeepsTheChangeListLaw : Prop :=
  ∀ s t : State, s.changesLaw → step s = .next t → t.changesLaw

/-- R76, R91: ages and gap counts stop at 255, rings hold at most 64 entries, watermarks stay from 1 to 63. R149: at most 16
records in an event queue, of which the lost-events record is the last and counts 1 to 255. R15: at most two TIMING events
of one boundary wait to reach each queue, and only while that is due (log entry 24). R17, R157: they wait for JOINED stations
alone. -/
def Obligations.StepKeepsTheExchangeAndEventLaws : Prop :=
  (∀ s t : State, s.exchangeLaw → step s = .next t → t.exchangeLaw) ∧
  (∀ s t : State, s.eventsLaw → step s = .next t → t.eventsLaw)

/-- R105, R112: the transmit queues keep their capacities, delivered records plus reserved places are at most 8, and a
sender's messages stand in each queue in post order, by an ordinal that no other of the sender's undelivered messages has
and that is below the next one (the ordinal is the model's, log entry 14). -/
def Obligations.StepKeepsTheLaneLaw : Prop :=
  ∀ s t : State, s.laneLaw → step s = .next t → t.laneLaw

/-- R138: at most 4 entries of one station, with distinct sequence numbers. -/
def Obligations.StepKeepsTheAckLaw : Prop :=
  ∀ s t : State, s.acksLaw → step s = .next t → t.acksLaw

/-- Spec/02, section 2.1: a station in ABSENT or LAPSED "holds nothing in the other blocks except roles in the active map
that are already marked for removal"; only a JOINED station has waiting messages, entries, changes or the role. -/
def Obligations.StepKeepsTheMembershipLaw : Prop :=
  ∀ s t : State, s.membershipLaw → step s = .next t → t.membershipLaw

/-- The laws hold after reset. -/
def Obligations.LawsHoldAtReset : Prop :=
  State.reset.timer.law ∧ State.reset.registryLaw ∧ State.reset.mapLaw ∧ State.reset.changesLaw ∧
  State.reset.exchangeLaw ∧ State.reset.laneLaw ∧ State.reset.acksLaw ∧ State.reset.eventsLaw ∧
  State.reset.membershipLaw
end

