-- ==== Sys2Proof/Laws/State.lean ====
section
/-! SUPPORT. One lemma per field per update of State, and the laws of four of a kind. -/

namespace Sys2Proof.Machine

/-! ## Four of a kind -/

namespace PerStation

variable {α : Type}

theorem ext_get {v w : PerStation α} (h : ∀ n, v.get n = w.get n) : v = w := by
  cases v; cases w
  have h1 := h .s1; have h2 := h .s2; have h3 := h .s3; have h4 := h .s4
  simp only [get] at h1 h2 h3 h4
  simp [h1, h2, h3, h4]

@[simp] theorem get_set_same (v : PerStation α) (n : Station) (a : α) : (v.set n a).get n = a := by
  cases n <;> rfl

theorem get_set (v : PerStation α) (n m : Station) (a : α) : (v.set n a).get m = if m = n then a else v.get m := by
  cases n <;> cases m <;> rfl

@[simp] theorem get_set_ne (v : PerStation α) {n m : Station} (a : α) (h : m ≠ n) : (v.set n a).get m = v.get m := by
  rw [get_set, if_neg h]

@[simp] theorem set_get (v : PerStation α) (n : Station) : v.set n (v.get n) = v := by cases n <;> rfl

@[simp] theorem set_set (v : PerStation α) (n : Station) (a b : α) : (v.set n a).set n b = v.set n b := by
  cases n <;> rfl

theorem set_comm (v : PerStation α) {n m : Station} (a b : α) (h : n ≠ m) :
    (v.set n a).set m b = (v.set m b).set n a := by
  cases n <;> cases m <;> first | rfl | exact absurd rfl h

@[simp] theorem get_map (v : PerStation α) (f : Station → α → α) (n : Station) : (v.map f).get n = f n (v.get n) := by
  cases n <;> rfl

@[simp] theorem get_all (a : α) (n : Station) : (PerStation.all a).get n = a := by cases n <;> rfl

end PerStation

/-! ## The fields that stand outside every block: ports and waiting commands -/

/-- The state with other ports and other waiting commands. -/
def State.outside (s : State) (v : PerStation Port) (l : List Instr) : State := { s with ports := v, pending := l }

@[simp] theorem State.outside_self (s : State) : s.outside s.ports s.pending = s := rfl
@[simp] theorem State.outside_outside (s : State) (v w : PerStation Port) (l k : List Instr) :
    (s.outside v l).outside w k = s.outside w k := rfl
theorem State.setPort_eq_outside (s : State) (n : Station) (q : Port) :
    s.setPort n q = s.outside (s.ports.set n q) s.pending := rfl

/-- The state with other event queues. -/
def State.setEvents (s : State) (v : PerStation EventQueue) : State := { s with events := v }

/-! ## Fields after an update -/

@[simp] theorem State.setTimer_timer (s : State) (t : Timer) :
    (s.setTimer t).timer = t := rfl
@[simp] theorem State.setTimer_registry (s : State) (t : Timer) :
    (s.setTimer t).registry = s.registry := rfl
@[simp] theorem State.setTimer_slotMap (s : State) (t : Timer) :
    (s.setTimer t).slotMap = s.slotMap := rfl
@[simp] theorem State.setTimer_changes (s : State) (t : Timer) :
    (s.setTimer t).changes = s.changes := rfl
@[simp] theorem State.setTimer_slots (s : State) (t : Timer) :
    (s.setTimer t).slots = s.slots := rfl
@[simp] theorem State.setTimer_rings (s : State) (t : Timer) :
    (s.setTimer t).rings = s.rings := rfl
@[simp] theorem State.setTimer_lane (s : State) (t : Timer) :
    (s.setTimer t).lane = s.lane := rfl
@[simp] theorem State.setTimer_acks (s : State) (t : Timer) :
    (s.setTimer t).acks = s.acks := rfl
@[simp] theorem State.setTimer_events (s : State) (t : Timer) :
    (s.setTimer t).events = s.events := rfl
@[simp] theorem State.setTimer_ports (s : State) (t : Timer) :
    (s.setTimer t).ports = s.ports := rfl
@[simp] theorem State.setTimer_due (s : State) (t : Timer) :
    (s.setTimer t).due = s.due := rfl
@[simp] theorem State.setTimer_timings (s : State) (t : Timer) :
    (s.setTimer t).timings = s.timings := rfl
@[simp] theorem State.setTimer_pending (s : State) (t : Timer) :
    (s.setTimer t).pending = s.pending := rfl

@[simp] theorem State.setRegistry_timer (s : State) (r : Registry) :
    (s.setRegistry r).timer = s.timer := rfl
@[simp] theorem State.setRegistry_registry (s : State) (r : Registry) :
    (s.setRegistry r).registry = r := rfl
@[simp] theorem State.setRegistry_slotMap (s : State) (r : Registry) :
    (s.setRegistry r).slotMap = s.slotMap := rfl
@[simp] theorem State.setRegistry_changes (s : State) (r : Registry) :
    (s.setRegistry r).changes = s.changes := rfl
@[simp] theorem State.setRegistry_slots (s : State) (r : Registry) :
    (s.setRegistry r).slots = s.slots := rfl
@[simp] theorem State.setRegistry_rings (s : State) (r : Registry) :
    (s.setRegistry r).rings = s.rings := rfl
@[simp] theorem State.setRegistry_lane (s : State) (r : Registry) :
    (s.setRegistry r).lane = s.lane := rfl
@[simp] theorem State.setRegistry_acks (s : State) (r : Registry) :
    (s.setRegistry r).acks = s.acks := rfl
@[simp] theorem State.setRegistry_events (s : State) (r : Registry) :
    (s.setRegistry r).events = s.events := rfl
@[simp] theorem State.setRegistry_ports (s : State) (r : Registry) :
    (s.setRegistry r).ports = s.ports := rfl
@[simp] theorem State.setRegistry_due (s : State) (r : Registry) :
    (s.setRegistry r).due = s.due := rfl
@[simp] theorem State.setRegistry_timings (s : State) (r : Registry) :
    (s.setRegistry r).timings = s.timings := rfl
@[simp] theorem State.setRegistry_pending (s : State) (r : Registry) :
    (s.setRegistry r).pending = s.pending := rfl

@[simp] theorem State.setSlotMap_timer (s : State) (m : List SlotEntry) :
    (s.setSlotMap m).timer = s.timer := rfl
@[simp] theorem State.setSlotMap_registry (s : State) (m : List SlotEntry) :
    (s.setSlotMap m).registry = s.registry := rfl
@[simp] theorem State.setSlotMap_slotMap (s : State) (m : List SlotEntry) :
    (s.setSlotMap m).slotMap = m := rfl
@[simp] theorem State.setSlotMap_changes (s : State) (m : List SlotEntry) :
    (s.setSlotMap m).changes = s.changes := rfl
@[simp] theorem State.setSlotMap_slots (s : State) (m : List SlotEntry) :
    (s.setSlotMap m).slots = s.slots := rfl
@[simp] theorem State.setSlotMap_rings (s : State) (m : List SlotEntry) :
    (s.setSlotMap m).rings = s.rings := rfl
@[simp] theorem State.setSlotMap_lane (s : State) (m : List SlotEntry) :
    (s.setSlotMap m).lane = s.lane := rfl
@[simp] theorem State.setSlotMap_acks (s : State) (m : List SlotEntry) :
    (s.setSlotMap m).acks = s.acks := rfl
@[simp] theorem State.setSlotMap_events (s : State) (m : List SlotEntry) :
    (s.setSlotMap m).events = s.events := rfl
@[simp] theorem State.setSlotMap_ports (s : State) (m : List SlotEntry) :
    (s.setSlotMap m).ports = s.ports := rfl
@[simp] theorem State.setSlotMap_due (s : State) (m : List SlotEntry) :
    (s.setSlotMap m).due = s.due := rfl
@[simp] theorem State.setSlotMap_timings (s : State) (m : List SlotEntry) :
    (s.setSlotMap m).timings = s.timings := rfl
@[simp] theorem State.setSlotMap_pending (s : State) (m : List SlotEntry) :
    (s.setSlotMap m).pending = s.pending := rfl

@[simp] theorem State.setChanges_timer (s : State) (c : List Change) :
    (s.setChanges c).timer = s.timer := rfl
@[simp] theorem State.setChanges_registry (s : State) (c : List Change) :
    (s.setChanges c).registry = s.registry := rfl
@[simp] theorem State.setChanges_slotMap (s : State) (c : List Change) :
    (s.setChanges c).slotMap = s.slotMap := rfl
@[simp] theorem State.setChanges_changes (s : State) (c : List Change) :
    (s.setChanges c).changes = c := rfl
@[simp] theorem State.setChanges_slots (s : State) (c : List Change) :
    (s.setChanges c).slots = s.slots := rfl
@[simp] theorem State.setChanges_rings (s : State) (c : List Change) :
    (s.setChanges c).rings = s.rings := rfl
@[simp] theorem State.setChanges_lane (s : State) (c : List Change) :
    (s.setChanges c).lane = s.lane := rfl
@[simp] theorem State.setChanges_acks (s : State) (c : List Change) :
    (s.setChanges c).acks = s.acks := rfl
@[simp] theorem State.setChanges_events (s : State) (c : List Change) :
    (s.setChanges c).events = s.events := rfl
@[simp] theorem State.setChanges_ports (s : State) (c : List Change) :
    (s.setChanges c).ports = s.ports := rfl
@[simp] theorem State.setChanges_due (s : State) (c : List Change) :
    (s.setChanges c).due = s.due := rfl
@[simp] theorem State.setChanges_timings (s : State) (c : List Change) :
    (s.setChanges c).timings = s.timings := rfl
@[simp] theorem State.setChanges_pending (s : State) (c : List Change) :
    (s.setChanges c).pending = s.pending := rfl

@[simp] theorem State.setSlots_timer (s : State) (l : List SlotState) :
    (s.setSlots l).timer = s.timer := rfl
@[simp] theorem State.setSlots_registry (s : State) (l : List SlotState) :
    (s.setSlots l).registry = s.registry := rfl
@[simp] theorem State.setSlots_slotMap (s : State) (l : List SlotState) :
    (s.setSlots l).slotMap = s.slotMap := rfl
@[simp] theorem State.setSlots_changes (s : State) (l : List SlotState) :
    (s.setSlots l).changes = s.changes := rfl
@[simp] theorem State.setSlots_slots (s : State) (l : List SlotState) :
    (s.setSlots l).slots = l := rfl
@[simp] theorem State.setSlots_rings (s : State) (l : List SlotState) :
    (s.setSlots l).rings = s.rings := rfl
@[simp] theorem State.setSlots_lane (s : State) (l : List SlotState) :
    (s.setSlots l).lane = s.lane := rfl
@[simp] theorem State.setSlots_acks (s : State) (l : List SlotState) :
    (s.setSlots l).acks = s.acks := rfl
@[simp] theorem State.setSlots_events (s : State) (l : List SlotState) :
    (s.setSlots l).events = s.events := rfl
@[simp] theorem State.setSlots_ports (s : State) (l : List SlotState) :
    (s.setSlots l).ports = s.ports := rfl
@[simp] theorem State.setSlots_due (s : State) (l : List SlotState) :
    (s.setSlots l).due = s.due := rfl
@[simp] theorem State.setSlots_timings (s : State) (l : List SlotState) :
    (s.setSlots l).timings = s.timings := rfl
@[simp] theorem State.setSlots_pending (s : State) (l : List SlotState) :
    (s.setSlots l).pending = s.pending := rfl

@[simp] theorem State.setRing_timer (s : State) (n : Station) (r : Ring) :
    (s.setRing n r).timer = s.timer := rfl
@[simp] theorem State.setRing_registry (s : State) (n : Station) (r : Ring) :
    (s.setRing n r).registry = s.registry := rfl
@[simp] theorem State.setRing_slotMap (s : State) (n : Station) (r : Ring) :
    (s.setRing n r).slotMap = s.slotMap := rfl
@[simp] theorem State.setRing_changes (s : State) (n : Station) (r : Ring) :
    (s.setRing n r).changes = s.changes := rfl
@[simp] theorem State.setRing_slots (s : State) (n : Station) (r : Ring) :
    (s.setRing n r).slots = s.slots := rfl
@[simp] theorem State.setRing_rings (s : State) (n : Station) (r : Ring) :
    (s.setRing n r).rings = s.rings.set n r := rfl
@[simp] theorem State.setRing_lane (s : State) (n : Station) (r : Ring) :
    (s.setRing n r).lane = s.lane := rfl
@[simp] theorem State.setRing_acks (s : State) (n : Station) (r : Ring) :
    (s.setRing n r).acks = s.acks := rfl
@[simp] theorem State.setRing_events (s : State) (n : Station) (r : Ring) :
    (s.setRing n r).events = s.events := rfl
@[simp] theorem State.setRing_ports (s : State) (n : Station) (r : Ring) :
    (s.setRing n r).ports = s.ports := rfl
@[simp] theorem State.setRing_due (s : State) (n : Station) (r : Ring) :
    (s.setRing n r).due = s.due := rfl
@[simp] theorem State.setRing_timings (s : State) (n : Station) (r : Ring) :
    (s.setRing n r).timings = s.timings := rfl
@[simp] theorem State.setRing_pending (s : State) (n : Station) (r : Ring) :
    (s.setRing n r).pending = s.pending := rfl

@[simp] theorem State.setLane_timer (s : State) (l : Lane) :
    (s.setLane l).timer = s.timer := rfl
@[simp] theorem State.setLane_registry (s : State) (l : Lane) :
    (s.setLane l).registry = s.registry := rfl
@[simp] theorem State.setLane_slotMap (s : State) (l : Lane) :
    (s.setLane l).slotMap = s.slotMap := rfl
@[simp] theorem State.setLane_changes (s : State) (l : Lane) :
    (s.setLane l).changes = s.changes := rfl
@[simp] theorem State.setLane_slots (s : State) (l : Lane) :
    (s.setLane l).slots = s.slots := rfl
@[simp] theorem State.setLane_rings (s : State) (l : Lane) :
    (s.setLane l).rings = s.rings := rfl
@[simp] theorem State.setLane_lane (s : State) (l : Lane) :
    (s.setLane l).lane = l := rfl
@[simp] theorem State.setLane_acks (s : State) (l : Lane) :
    (s.setLane l).acks = s.acks := rfl
@[simp] theorem State.setLane_events (s : State) (l : Lane) :
    (s.setLane l).events = s.events := rfl
@[simp] theorem State.setLane_ports (s : State) (l : Lane) :
    (s.setLane l).ports = s.ports := rfl
@[simp] theorem State.setLane_due (s : State) (l : Lane) :
    (s.setLane l).due = s.due := rfl
@[simp] theorem State.setLane_timings (s : State) (l : Lane) :
    (s.setLane l).timings = s.timings := rfl
@[simp] theorem State.setLane_pending (s : State) (l : Lane) :
    (s.setLane l).pending = s.pending := rfl

@[simp] theorem State.setAcks_timer (s : State) (a : PerStation (List AckEntry)) :
    (s.setAcks a).timer = s.timer := rfl
@[simp] theorem State.setAcks_registry (s : State) (a : PerStation (List AckEntry)) :
    (s.setAcks a).registry = s.registry := rfl
@[simp] theorem State.setAcks_slotMap (s : State) (a : PerStation (List AckEntry)) :
    (s.setAcks a).slotMap = s.slotMap := rfl
@[simp] theorem State.setAcks_changes (s : State) (a : PerStation (List AckEntry)) :
    (s.setAcks a).changes = s.changes := rfl
@[simp] theorem State.setAcks_slots (s : State) (a : PerStation (List AckEntry)) :
    (s.setAcks a).slots = s.slots := rfl
@[simp] theorem State.setAcks_rings (s : State) (a : PerStation (List AckEntry)) :
    (s.setAcks a).rings = s.rings := rfl
@[simp] theorem State.setAcks_lane (s : State) (a : PerStation (List AckEntry)) :
    (s.setAcks a).lane = s.lane := rfl
@[simp] theorem State.setAcks_acks (s : State) (a : PerStation (List AckEntry)) :
    (s.setAcks a).acks = a := rfl
@[simp] theorem State.setAcks_events (s : State) (a : PerStation (List AckEntry)) :
    (s.setAcks a).events = s.events := rfl
@[simp] theorem State.setAcks_ports (s : State) (a : PerStation (List AckEntry)) :
    (s.setAcks a).ports = s.ports := rfl
@[simp] theorem State.setAcks_due (s : State) (a : PerStation (List AckEntry)) :
    (s.setAcks a).due = s.due := rfl
@[simp] theorem State.setAcks_timings (s : State) (a : PerStation (List AckEntry)) :
    (s.setAcks a).timings = s.timings := rfl
@[simp] theorem State.setAcks_pending (s : State) (a : PerStation (List AckEntry)) :
    (s.setAcks a).pending = s.pending := rfl

@[simp] theorem State.setQueue_timer (s : State) (n : Station) (q : EventQueue) :
    (s.setQueue n q).timer = s.timer := rfl
@[simp] theorem State.setQueue_registry (s : State) (n : Station) (q : EventQueue) :
    (s.setQueue n q).registry = s.registry := rfl
@[simp] theorem State.setQueue_slotMap (s : State) (n : Station) (q : EventQueue) :
    (s.setQueue n q).slotMap = s.slotMap := rfl
@[simp] theorem State.setQueue_changes (s : State) (n : Station) (q : EventQueue) :
    (s.setQueue n q).changes = s.changes := rfl
@[simp] theorem State.setQueue_slots (s : State) (n : Station) (q : EventQueue) :
    (s.setQueue n q).slots = s.slots := rfl
@[simp] theorem State.setQueue_rings (s : State) (n : Station) (q : EventQueue) :
    (s.setQueue n q).rings = s.rings := rfl
@[simp] theorem State.setQueue_lane (s : State) (n : Station) (q : EventQueue) :
    (s.setQueue n q).lane = s.lane := rfl
@[simp] theorem State.setQueue_acks (s : State) (n : Station) (q : EventQueue) :
    (s.setQueue n q).acks = s.acks := rfl
@[simp] theorem State.setQueue_events (s : State) (n : Station) (q : EventQueue) :
    (s.setQueue n q).events = s.events.set n q := rfl
@[simp] theorem State.setQueue_ports (s : State) (n : Station) (q : EventQueue) :
    (s.setQueue n q).ports = s.ports := rfl
@[simp] theorem State.setQueue_due (s : State) (n : Station) (q : EventQueue) :
    (s.setQueue n q).due = s.due := rfl
@[simp] theorem State.setQueue_timings (s : State) (n : Station) (q : EventQueue) :
    (s.setQueue n q).timings = s.timings := rfl
@[simp] theorem State.setQueue_pending (s : State) (n : Station) (q : EventQueue) :
    (s.setQueue n q).pending = s.pending := rfl

@[simp] theorem State.setPort_timer (s : State) (n : Station) (q : Port) :
    (s.setPort n q).timer = s.timer := rfl
@[simp] theorem State.setPort_registry (s : State) (n : Station) (q : Port) :
    (s.setPort n q).registry = s.registry := rfl
@[simp] theorem State.setPort_slotMap (s : State) (n : Station) (q : Port) :
    (s.setPort n q).slotMap = s.slotMap := rfl
@[simp] theorem State.setPort_changes (s : State) (n : Station) (q : Port) :
    (s.setPort n q).changes = s.changes := rfl
@[simp] theorem State.setPort_slots (s : State) (n : Station) (q : Port) :
    (s.setPort n q).slots = s.slots := rfl
@[simp] theorem State.setPort_rings (s : State) (n : Station) (q : Port) :
    (s.setPort n q).rings = s.rings := rfl
@[simp] theorem State.setPort_lane (s : State) (n : Station) (q : Port) :
    (s.setPort n q).lane = s.lane := rfl
@[simp] theorem State.setPort_acks (s : State) (n : Station) (q : Port) :
    (s.setPort n q).acks = s.acks := rfl
@[simp] theorem State.setPort_events (s : State) (n : Station) (q : Port) :
    (s.setPort n q).events = s.events := rfl
@[simp] theorem State.setPort_ports (s : State) (n : Station) (q : Port) :
    (s.setPort n q).ports = s.ports.set n q := rfl
@[simp] theorem State.setPort_due (s : State) (n : Station) (q : Port) :
    (s.setPort n q).due = s.due := rfl
@[simp] theorem State.setPort_timings (s : State) (n : Station) (q : Port) :
    (s.setPort n q).timings = s.timings := rfl
@[simp] theorem State.setPort_pending (s : State) (n : Station) (q : Port) :
    (s.setPort n q).pending = s.pending := rfl

@[simp] theorem State.setDue_timer (s : State) (d : List Work) :
    (s.setDue d).timer = s.timer := rfl
@[simp] theorem State.setDue_registry (s : State) (d : List Work) :
    (s.setDue d).registry = s.registry := rfl
@[simp] theorem State.setDue_slotMap (s : State) (d : List Work) :
    (s.setDue d).slotMap = s.slotMap := rfl
@[simp] theorem State.setDue_changes (s : State) (d : List Work) :
    (s.setDue d).changes = s.changes := rfl
@[simp] theorem State.setDue_slots (s : State) (d : List Work) :
    (s.setDue d).slots = s.slots := rfl
@[simp] theorem State.setDue_rings (s : State) (d : List Work) :
    (s.setDue d).rings = s.rings := rfl
@[simp] theorem State.setDue_lane (s : State) (d : List Work) :
    (s.setDue d).lane = s.lane := rfl
@[simp] theorem State.setDue_acks (s : State) (d : List Work) :
    (s.setDue d).acks = s.acks := rfl
@[simp] theorem State.setDue_events (s : State) (d : List Work) :
    (s.setDue d).events = s.events := rfl
@[simp] theorem State.setDue_ports (s : State) (d : List Work) :
    (s.setDue d).ports = s.ports := rfl
@[simp] theorem State.setDue_due (s : State) (d : List Work) :
    (s.setDue d).due = d := rfl
@[simp] theorem State.setDue_timings (s : State) (d : List Work) :
    (s.setDue d).timings = s.timings := rfl
@[simp] theorem State.setDue_pending (s : State) (d : List Work) :
    (s.setDue d).pending = s.pending := rfl

@[simp] theorem State.setTimings_timer (s : State) (v : PerStation (List Event)) :
    (s.setTimings v).timer = s.timer := rfl
@[simp] theorem State.setTimings_registry (s : State) (v : PerStation (List Event)) :
    (s.setTimings v).registry = s.registry := rfl
@[simp] theorem State.setTimings_slotMap (s : State) (v : PerStation (List Event)) :
    (s.setTimings v).slotMap = s.slotMap := rfl
@[simp] theorem State.setTimings_changes (s : State) (v : PerStation (List Event)) :
    (s.setTimings v).changes = s.changes := rfl
@[simp] theorem State.setTimings_slots (s : State) (v : PerStation (List Event)) :
    (s.setTimings v).slots = s.slots := rfl
@[simp] theorem State.setTimings_rings (s : State) (v : PerStation (List Event)) :
    (s.setTimings v).rings = s.rings := rfl
@[simp] theorem State.setTimings_lane (s : State) (v : PerStation (List Event)) :
    (s.setTimings v).lane = s.lane := rfl
@[simp] theorem State.setTimings_acks (s : State) (v : PerStation (List Event)) :
    (s.setTimings v).acks = s.acks := rfl
@[simp] theorem State.setTimings_events (s : State) (v : PerStation (List Event)) :
    (s.setTimings v).events = s.events := rfl
@[simp] theorem State.setTimings_ports (s : State) (v : PerStation (List Event)) :
    (s.setTimings v).ports = s.ports := rfl
@[simp] theorem State.setTimings_due (s : State) (v : PerStation (List Event)) :
    (s.setTimings v).due = s.due := rfl
@[simp] theorem State.setTimings_timings (s : State) (v : PerStation (List Event)) :
    (s.setTimings v).timings = v := rfl
@[simp] theorem State.setTimings_pending (s : State) (v : PerStation (List Event)) :
    (s.setTimings v).pending = s.pending := rfl

@[simp] theorem State.dropWork_timer (s : State) (w : Work) :
    (s.dropWork w).timer = s.timer := rfl
@[simp] theorem State.dropWork_registry (s : State) (w : Work) :
    (s.dropWork w).registry = s.registry := rfl
@[simp] theorem State.dropWork_slotMap (s : State) (w : Work) :
    (s.dropWork w).slotMap = s.slotMap := rfl
@[simp] theorem State.dropWork_changes (s : State) (w : Work) :
    (s.dropWork w).changes = s.changes := rfl
@[simp] theorem State.dropWork_slots (s : State) (w : Work) :
    (s.dropWork w).slots = s.slots := rfl
@[simp] theorem State.dropWork_rings (s : State) (w : Work) :
    (s.dropWork w).rings = s.rings := rfl
@[simp] theorem State.dropWork_lane (s : State) (w : Work) :
    (s.dropWork w).lane = s.lane := rfl
@[simp] theorem State.dropWork_acks (s : State) (w : Work) :
    (s.dropWork w).acks = s.acks := rfl
@[simp] theorem State.dropWork_events (s : State) (w : Work) :
    (s.dropWork w).events = s.events := rfl
@[simp] theorem State.dropWork_ports (s : State) (w : Work) :
    (s.dropWork w).ports = s.ports := rfl
@[simp] theorem State.dropWork_pending (s : State) (w : Work) :
    (s.dropWork w).pending = s.pending := rfl
@[simp] theorem State.dropWork_due (s : State) (w : Work) :
    (s.dropWork w).due = s.due.erase w := rfl
@[simp] theorem State.dropWork_timings (s : State) (w : Work) :
    (s.dropWork w).timings = s.timings := rfl

@[simp] theorem State.setStation_timer (s : State) (n : Station) (r : StationRec) :
    (s.setStation n r).timer = s.timer := rfl
@[simp] theorem State.setStation_registry (s : State) (n : Station) (r : StationRec) :
    (s.setStation n r).registry = { s.registry with stations := s.registry.stations.set n r } := rfl
@[simp] theorem State.setStation_slotMap (s : State) (n : Station) (r : StationRec) :
    (s.setStation n r).slotMap = s.slotMap := rfl
@[simp] theorem State.setStation_changes (s : State) (n : Station) (r : StationRec) :
    (s.setStation n r).changes = s.changes := rfl
@[simp] theorem State.setStation_slots (s : State) (n : Station) (r : StationRec) :
    (s.setStation n r).slots = s.slots := rfl
@[simp] theorem State.setStation_rings (s : State) (n : Station) (r : StationRec) :
    (s.setStation n r).rings = s.rings := rfl
@[simp] theorem State.setStation_lane (s : State) (n : Station) (r : StationRec) :
    (s.setStation n r).lane = s.lane := rfl
@[simp] theorem State.setStation_acks (s : State) (n : Station) (r : StationRec) :
    (s.setStation n r).acks = s.acks := rfl
@[simp] theorem State.setStation_events (s : State) (n : Station) (r : StationRec) :
    (s.setStation n r).events = s.events := rfl
@[simp] theorem State.setStation_ports (s : State) (n : Station) (r : StationRec) :
    (s.setStation n r).ports = s.ports := rfl
@[simp] theorem State.setStation_due (s : State) (n : Station) (r : StationRec) :
    (s.setStation n r).due = s.due := rfl
@[simp] theorem State.setStation_timings (s : State) (n : Station) (r : StationRec) :
    (s.setStation n r).timings = s.timings := rfl
@[simp] theorem State.setStation_pending (s : State) (n : Station) (r : StationRec) :
    (s.setStation n r).pending = s.pending := rfl

@[simp] theorem State.setCoordinator_timer (s : State) (c : Option Station) :
    (s.setCoordinator c).timer = s.timer := rfl
@[simp] theorem State.setCoordinator_registry (s : State) (c : Option Station) :
    (s.setCoordinator c).registry = { s.registry with coordinator := c } := rfl
@[simp] theorem State.setCoordinator_slotMap (s : State) (c : Option Station) :
    (s.setCoordinator c).slotMap = s.slotMap := rfl
@[simp] theorem State.setCoordinator_changes (s : State) (c : Option Station) :
    (s.setCoordinator c).changes = s.changes := rfl
@[simp] theorem State.setCoordinator_slots (s : State) (c : Option Station) :
    (s.setCoordinator c).slots = s.slots := rfl
@[simp] theorem State.setCoordinator_rings (s : State) (c : Option Station) :
    (s.setCoordinator c).rings = s.rings := rfl
@[simp] theorem State.setCoordinator_lane (s : State) (c : Option Station) :
    (s.setCoordinator c).lane = s.lane := rfl
@[simp] theorem State.setCoordinator_acks (s : State) (c : Option Station) :
    (s.setCoordinator c).acks = s.acks := rfl
@[simp] theorem State.setCoordinator_events (s : State) (c : Option Station) :
    (s.setCoordinator c).events = s.events := rfl
@[simp] theorem State.setCoordinator_ports (s : State) (c : Option Station) :
    (s.setCoordinator c).ports = s.ports := rfl
@[simp] theorem State.setCoordinator_due (s : State) (c : Option Station) :
    (s.setCoordinator c).due = s.due := rfl
@[simp] theorem State.setCoordinator_timings (s : State) (c : Option Station) :
    (s.setCoordinator c).timings = s.timings := rfl
@[simp] theorem State.setCoordinator_pending (s : State) (c : Option Station) :
    (s.setCoordinator c).pending = s.pending := rfl

@[simp] theorem State.setAckList_timer (s : State) (n : Station) (l : List AckEntry) :
    (s.setAckList n l).timer = s.timer := rfl
@[simp] theorem State.setAckList_registry (s : State) (n : Station) (l : List AckEntry) :
    (s.setAckList n l).registry = s.registry := rfl
@[simp] theorem State.setAckList_slotMap (s : State) (n : Station) (l : List AckEntry) :
    (s.setAckList n l).slotMap = s.slotMap := rfl
@[simp] theorem State.setAckList_changes (s : State) (n : Station) (l : List AckEntry) :
    (s.setAckList n l).changes = s.changes := rfl
@[simp] theorem State.setAckList_slots (s : State) (n : Station) (l : List AckEntry) :
    (s.setAckList n l).slots = s.slots := rfl
@[simp] theorem State.setAckList_rings (s : State) (n : Station) (l : List AckEntry) :
    (s.setAckList n l).rings = s.rings := rfl
@[simp] theorem State.setAckList_lane (s : State) (n : Station) (l : List AckEntry) :
    (s.setAckList n l).lane = s.lane := rfl
@[simp] theorem State.setAckList_acks (s : State) (n : Station) (l : List AckEntry) :
    (s.setAckList n l).acks = s.acks.set n l := rfl
@[simp] theorem State.setAckList_events (s : State) (n : Station) (l : List AckEntry) :
    (s.setAckList n l).events = s.events := rfl
@[simp] theorem State.setAckList_ports (s : State) (n : Station) (l : List AckEntry) :
    (s.setAckList n l).ports = s.ports := rfl
@[simp] theorem State.setAckList_due (s : State) (n : Station) (l : List AckEntry) :
    (s.setAckList n l).due = s.due := rfl
@[simp] theorem State.setAckList_timings (s : State) (n : Station) (l : List AckEntry) :
    (s.setAckList n l).timings = s.timings := rfl
@[simp] theorem State.setAckList_pending (s : State) (n : Station) (l : List AckEntry) :
    (s.setAckList n l).pending = s.pending := rfl

@[simp] theorem State.setSlot_timer (s : State) (k : Nat) (x : SlotState) :
    (s.setSlot k x).timer = s.timer := rfl
@[simp] theorem State.setSlot_registry (s : State) (k : Nat) (x : SlotState) :
    (s.setSlot k x).registry = s.registry := rfl
@[simp] theorem State.setSlot_slotMap (s : State) (k : Nat) (x : SlotState) :
    (s.setSlot k x).slotMap = s.slotMap := rfl
@[simp] theorem State.setSlot_changes (s : State) (k : Nat) (x : SlotState) :
    (s.setSlot k x).changes = s.changes := rfl
@[simp] theorem State.setSlot_slots (s : State) (k : Nat) (x : SlotState) :
    (s.setSlot k x).slots = s.slots.set k x := rfl
@[simp] theorem State.setSlot_rings (s : State) (k : Nat) (x : SlotState) :
    (s.setSlot k x).rings = s.rings := rfl
@[simp] theorem State.setSlot_lane (s : State) (k : Nat) (x : SlotState) :
    (s.setSlot k x).lane = s.lane := rfl
@[simp] theorem State.setSlot_acks (s : State) (k : Nat) (x : SlotState) :
    (s.setSlot k x).acks = s.acks := rfl
@[simp] theorem State.setSlot_events (s : State) (k : Nat) (x : SlotState) :
    (s.setSlot k x).events = s.events := rfl
@[simp] theorem State.setSlot_ports (s : State) (k : Nat) (x : SlotState) :
    (s.setSlot k x).ports = s.ports := rfl
@[simp] theorem State.setSlot_due (s : State) (k : Nat) (x : SlotState) :
    (s.setSlot k x).due = s.due := rfl
@[simp] theorem State.setSlot_timings (s : State) (k : Nat) (x : SlotState) :
    (s.setSlot k x).timings = s.timings := rfl
@[simp] theorem State.setSlot_pending (s : State) (k : Nat) (x : SlotState) :
    (s.setSlot k x).pending = s.pending := rfl

@[simp] theorem State.setEvents_timer (s : State) (v : PerStation EventQueue) :
    (s.setEvents v).timer = s.timer := rfl
@[simp] theorem State.setEvents_registry (s : State) (v : PerStation EventQueue) :
    (s.setEvents v).registry = s.registry := rfl
@[simp] theorem State.setEvents_slotMap (s : State) (v : PerStation EventQueue) :
    (s.setEvents v).slotMap = s.slotMap := rfl
@[simp] theorem State.setEvents_changes (s : State) (v : PerStation EventQueue) :
    (s.setEvents v).changes = s.changes := rfl
@[simp] theorem State.setEvents_slots (s : State) (v : PerStation EventQueue) :
    (s.setEvents v).slots = s.slots := rfl
@[simp] theorem State.setEvents_rings (s : State) (v : PerStation EventQueue) :
    (s.setEvents v).rings = s.rings := rfl
@[simp] theorem State.setEvents_lane (s : State) (v : PerStation EventQueue) :
    (s.setEvents v).lane = s.lane := rfl
@[simp] theorem State.setEvents_acks (s : State) (v : PerStation EventQueue) :
    (s.setEvents v).acks = s.acks := rfl
@[simp] theorem State.setEvents_events (s : State) (v : PerStation EventQueue) :
    (s.setEvents v).events = v := rfl
@[simp] theorem State.setEvents_ports (s : State) (v : PerStation EventQueue) :
    (s.setEvents v).ports = s.ports := rfl
@[simp] theorem State.setEvents_due (s : State) (v : PerStation EventQueue) :
    (s.setEvents v).due = s.due := rfl
@[simp] theorem State.setEvents_timings (s : State) (v : PerStation EventQueue) :
    (s.setEvents v).timings = s.timings := rfl
@[simp] theorem State.setEvents_pending (s : State) (v : PerStation EventQueue) :
    (s.setEvents v).pending = s.pending := rfl

@[simp] theorem State.outside_timer (s : State) (v : PerStation Port) (l : List Instr) :
    (s.outside v l).timer = s.timer := rfl
@[simp] theorem State.outside_registry (s : State) (v : PerStation Port) (l : List Instr) :
    (s.outside v l).registry = s.registry := rfl
@[simp] theorem State.outside_slotMap (s : State) (v : PerStation Port) (l : List Instr) :
    (s.outside v l).slotMap = s.slotMap := rfl
@[simp] theorem State.outside_changes (s : State) (v : PerStation Port) (l : List Instr) :
    (s.outside v l).changes = s.changes := rfl
@[simp] theorem State.outside_slots (s : State) (v : PerStation Port) (l : List Instr) :
    (s.outside v l).slots = s.slots := rfl
@[simp] theorem State.outside_rings (s : State) (v : PerStation Port) (l : List Instr) :
    (s.outside v l).rings = s.rings := rfl
@[simp] theorem State.outside_lane (s : State) (v : PerStation Port) (l : List Instr) :
    (s.outside v l).lane = s.lane := rfl
@[simp] theorem State.outside_acks (s : State) (v : PerStation Port) (l : List Instr) :
    (s.outside v l).acks = s.acks := rfl
@[simp] theorem State.outside_events (s : State) (v : PerStation Port) (l : List Instr) :
    (s.outside v l).events = s.events := rfl
@[simp] theorem State.outside_ports (s : State) (v : PerStation Port) (l : List Instr) :
    (s.outside v l).ports = v := rfl
@[simp] theorem State.outside_due (s : State) (v : PerStation Port) (l : List Instr) :
    (s.outside v l).due = s.due := rfl
@[simp] theorem State.outside_timings (s : State) (v : PerStation Port) (l : List Instr) :
    (s.outside v l).timings = s.timings := rfl
@[simp] theorem State.outside_pending (s : State) (v : PerStation Port) (l : List Instr) :
    (s.outside v l).pending = l := rfl

end Sys2Proof.Machine
end

