-- ==== Sys2Proof/Laws/Events.lean ====
section
/-! SUPPORT. Raising records: it touches the event queues alone, and each station gets its own records in order. -/

namespace Sys2Proof.Machine

/-- Raising one record changes the event queues alone. -/
theorem State.raise_eq (s : State) (n : Station) (st : Stamp) (e : Event) :
    s.raise n st e = s.setEvents (s.raise n st e).events := by
  unfold State.raise; split <;> rfl

theorem State.raise_present (s : State) (n m : Station) (st : Stamp) (e : Event) :
    (s.raise n st e).present m = s.present m := by rw [State.raise_eq]; rfl

theorem State.raise_joined (s : State) (n m : Station) (st : Stamp) (e : Event) :
    (s.raise n st e).joined m = s.joined m := by rw [State.raise_eq]; rfl

/-- The queue of one station after a record is raised (R151). -/
theorem State.raise_queue (s : State) (n m : Station) (st : Stamp) (e : Event) :
    (s.raise n st e).events.get m =
      if m = n ∧ s.present n = true then (s.events.get n).append { stamp := st, event := e } else s.events.get m := by
  unfold State.raise
  by_cases hp : s.present n = true
  · by_cases hm : m = n
    · subst hm; simp [hp]
    · simp [hp, hm]
  · simp [hp]

/-- Raising records changes the event queues alone. -/
theorem State.raiseAll_eq (s : State) (st : Stamp) (l : List (Station × Event)) :
    s.raiseAll st l = s.setEvents (s.raiseAll st l).events := by
  induction l generalizing s with
  | nil => rfl
  | cons x l ih =>
    have e : s.raiseAll st (x :: l) = (s.raise x.1 st x.2).raiseAll st l := rfl
    have h : ∀ v, (s.raise x.1 st x.2).setEvents v = s.setEvents v := by
      intro v; rw [State.raise_eq s]; rfl
    rw [e, ih (s.raise x.1 st x.2), h]
    rfl

/-- The records of a list that are for station m, with their stamp. -/
def recordsFor (m : Station) (st : Stamp) (l : List (Station × Event)) : List EventRecord :=
  (l.filter (fun x => x.1 = m)).map (fun x => { stamp := st, event := x.2 })

/-- The queue of one station after records are raised: its own, in order, if it is JOINED or LEAVING (R151, R153). -/
theorem State.raiseAll_queue (s : State) (st : Stamp) (l : List (Station × Event)) (m : Station) :
    (s.raiseAll st l).events.get m =
      if s.present m = true then (s.events.get m).appendAll (recordsFor m st l) else s.events.get m := by
  induction l generalizing s with
  | nil => simp [State.raiseAll, recordsFor, EventQueue.appendAll]
  | cons x l ih =>
    show ((s.raise x.1 st x.2).raiseAll st l).events.get m = _
    rw [ih, State.raise_present, State.raise_queue]
    by_cases hp : s.present m = true
    · by_cases hm : m = x.1
      · subst hm; simp [hp, recordsFor, EventQueue.appendAll]
      · simp [hp, recordsFor, EventQueue.appendAll, hm, Ne.symm hm]
    · by_cases hm : m = x.1
      · subst hm; simp [hp]
      · simp [hp, hm]

theorem State.present_of_joined {s : State} {n : Station} (h : s.joined n = true) : s.present n = true := by
  simp only [State.joined] at h; simp [State.present, h]

theorem mem_stations (n : Station) : n ∈ stations := by cases n <;> simp [stations]

theorem stations_nodup : stations.Nodup := by decide

/-- One record to each of a list of stations without repeats. -/
theorem State.raiseAll_one (s : State) (st : Stamp) (e : Event) (l : List Station) (hl : l.Nodup)
    (hp : ∀ n ∈ l, s.present n = true) :
    s.raiseAll st (l.map (fun n => (n, e))) = s.told (fun n => l.contains n) st e := by
  rw [State.raiseAll_eq]
  unfold State.told State.setEvents
  congr 1
  apply PerStation.ext_get
  intro m
  rw [State.raiseAll_queue, PerStation.get_map]
  have key : recordsFor m st (l.map (fun n => (n, e))) =
      if l.contains m then [{ stamp := st, event := e }] else [] := by
    clear hp
    induction l with
    | nil => rfl
    | cons x l ih =>
      have ih' := ih (List.nodup_cons.mp hl).2
      simp only [recordsFor] at ih' ⊢
      by_cases hx : x = m
      · subst hx
        have hn : l.contains x = false := by simpa using (List.nodup_cons.mp hl).1
        rw [hn] at ih'
        simp [ih']
      · simp [hx, Ne.symm hx, ih']
  rw [key]
  by_cases hm : m ∈ l
  · simp [hm, hp m hm, EventQueue.appendAll]
  · simp [hm, EventQueue.appendAll]

/-- A record to every JOINED station (R17, R35). -/
theorem State.raiseToJoined_told (s : State) (st : Stamp) (e : Event) :
    s.raiseToJoined st e = s.told s.joined st e := by
  unfold State.raiseToJoined State.joinedStations
  rw [State.raiseAll_one _ _ _ _ (stations_nodup.filter _) (by
    intro n hn; exact State.present_of_joined (List.mem_filter.mp hn).2)]
  congr 1
  funext n
  cases h : s.joined n <;> simp [h, mem_stations]

/-- The TIMING of a boundary reaches the queues of the members it was raised to, and nothing else changes but that it waits no
more. -/
theorem State.raiseTimings_eq (s : State) :
    s.raiseTimings =
      (s.setEvents (s.events.map (fun n q =>
        if s.present n then q.appendAll (stamped s.stamp (s.timings.get n)) else q))).setTimings (PerStation.all []) := by
  rw [State.raiseTimings, State.raiseAll_eq]
  congr 2
  apply PerStation.ext_get
  intro n
  rw [State.raiseAll_queue, PerStation.get_map]
  have key : recordsFor n s.stamp (stations.flatMap (fun m => (s.timings.get m).map (fun e => (m, e)))) =
      stamped s.stamp (s.timings.get n) := by
    cases n <;> simp [recordsFor, stamped, stations, List.filter_append, List.filter_map, Function.comp_def]
  rw [key]

/-- A record to every other JOINED station (R21). -/
theorem State.raiseToOthers_told (s : State) (n : Station) (st : Stamp) (e : Event) :
    s.raiseToOthers n st e = s.told (fun m => m ≠ n && s.joined m) st e := by
  unfold State.raiseToOthers State.joinedStations
  rw [State.raiseAll_one _ _ _ _ ((stations_nodup.filter _).filter _) (by
    intro m hm; exact State.present_of_joined (List.mem_filter.mp (List.mem_filter.mp hm).1).2)]
  congr 1
  funext m
  cases h : s.joined m <;> by_cases hm : m = n <;> simp [h, hm, mem_stations]

end Sys2Proof.Machine
end

