-- ==== Sys2Proof/Laws/Outside.lean ====
section
/-! SUPPORT. No block reads or writes the ports or the queue of waiting commands: every operation of a block gives the same
with other ports and other waiting commands. -/

namespace Sys2Proof.Machine

/-! ## What is read from the blocks -/

@[simp] theorem State.station_outside (s : State) (v : PerStation Port) (l : List Instr) (n : Station) :
    (s.outside v l).station n = s.station n := rfl
@[simp] theorem State.joined_outside (s : State) (v : PerStation Port) (l : List Instr) (n : Station) :
    (s.outside v l).joined n = s.joined n := rfl
@[simp] theorem State.present_outside (s : State) (v : PerStation Port) (l : List Instr) (n : Station) :
    (s.outside v l).present n = s.present n := rfl
@[simp] theorem State.frameAt_outside (s : State) (v : PerStation Port) (l : List Instr) (w : Work) :
    (s.outside v l).frameAt w = s.frameAt w := rfl
@[simp] theorem State.stampAt_outside (s : State) (v : PerStation Port) (l : List Instr) (w : Work) :
    (s.outside v l).stampAt w = s.stampAt w := rfl
@[simp] theorem State.stamp_outside (s : State) (v : PerStation Port) (l : List Instr)  :
    (s.outside v l).stamp  = s.stamp  := rfl
@[simp] theorem State.joinedStations_outside (s : State) (v : PerStation Port) (l : List Instr)  :
    (s.outside v l).joinedStations  = s.joinedStations  := rfl
@[simp] theorem State.entry_outside (s : State) (v : PerStation Port) (l : List Instr) (k : Nat) :
    (s.outside v l).entry k = s.entry k := rfl
@[simp] theorem State.slot_outside (s : State) (v : PerStation Port) (l : List Instr) (k : Nat) :
    (s.outside v l).slot k = s.slot k := rfl
@[simp] theorem State.projected_outside (s : State) (v : PerStation Port) (l : List Instr)  :
    (s.outside v l).projected  = s.projected  := rfl
@[simp] theorem State.stagingRefusal_outside (s : State) (v : PerStation Port) (l : List Instr) (o : Option Station) :
    (s.outside v l).stagingRefusal o = s.stagingRefusal o := rfl
@[simp] theorem State.changeOwner_outside (s : State) (v : PerStation Port) (l : List Instr) (c : Change) :
    (s.outside v l).changeOwner c = s.changeOwner c := rfl
@[simp] theorem State.ackExpiryDue_outside (s : State) (v : PerStation Port) (l : List Instr)  :
    (s.outside v l).ackExpiryDue  = s.ackExpiryDue  := rfl
@[simp] theorem State.destinationsReady_outside (s : State) (v : PerStation Port) (l : List Instr) (m : Message) :
    (s.outside v l).destinationsReady m = s.destinationsReady m := rfl
@[simp] theorem State.eligible_outside (s : State) (v : PerStation Port) (l : List Instr) (n : Station) (c : MsgClass) :
    (s.outside v l).eligible n c = s.eligible n c := rfl
@[simp] theorem State.blockedForRoom_outside (s : State) (v : PerStation Port) (l : List Instr) (n : Station) (c : MsgClass) :
    (s.outside v l).blockedForRoom n c = s.blockedForRoom n c := rfl
@[simp] theorem State.blockedHeads_outside (s : State) (v : PerStation Port) (l : List Instr)  :
    (s.outside v l).blockedHeads  = s.blockedHeads  := rfl
@[simp] theorem State.winner_outside (s : State) (v : PerStation Port) (l : List Instr)  :
    (s.outside v l).winner  = s.winner  := rfl
@[simp] theorem State.destinationsOf_outside (s : State) (v : PerStation Port) (l : List Instr) (m : Message) :
    (s.outside v l).destinationsOf m = s.destinationsOf m := rfl
@[simp] theorem State.returned_outside (s : State) (v : PerStation Port) (l : List Instr) (x n : Station) (m : Message) :
    (s.outside v l).returned x n m = s.returned x n m := rfl
@[simp] theorem State.holdsRole_outside (s : State) (v : PerStation Port) (l : List Instr) (n : Station) :
    (s.outside v l).holdsRole n = s.holdsRole n := rfl
@[simp] theorem State.leavesBeforeEpoch_outside (s : State) (v : PerStation Port) (l : List Instr) :
    (s.outside v l).leavesBeforeEpoch = s.leavesBeforeEpoch := rfl
@[simp] theorem State.ackStamp_outside (s : State) (v : PerStation Port) (l : List Instr) (a : AckEntry) :
    (s.outside v l).ackStamp a = s.ackStamp a := rfl
@[simp] theorem State.nameHeld_outside (s : State) (v : PerStation Port) (l : List Instr) (n : Station) (x : Name) :
    (s.outside v l).nameHeld n x = s.nameHeld n x := rfl
@[simp] theorem State.registryRefusal_outside (s : State) (v : PerStation Port) (l : List Instr) (p : Station) (r : Request) :
    (s.outside v l).registryRefusal p r = s.registryRefusal p r := rfl
@[simp] theorem State.statusResults_outside (s : State) (v : PerStation Port) (l : List Instr) (p : Station) :
    (s.outside v l).statusResults p = s.statusResults p := rfl

@[simp] theorem State.setTimer_outside (s : State) (v : PerStation Port) (l : List Instr) (t : Timer) :
    (s.outside v l).setTimer t = (s.setTimer t).outside v l := rfl
@[simp] theorem State.setRegistry_outside (s : State) (v : PerStation Port) (l : List Instr) (r : Registry) :
    (s.outside v l).setRegistry r = (s.setRegistry r).outside v l := rfl
@[simp] theorem State.setSlotMap_outside (s : State) (v : PerStation Port) (l : List Instr) (m : List SlotEntry) :
    (s.outside v l).setSlotMap m = (s.setSlotMap m).outside v l := rfl
@[simp] theorem State.setChanges_outside (s : State) (v : PerStation Port) (l : List Instr) (c : List Change) :
    (s.outside v l).setChanges c = (s.setChanges c).outside v l := rfl
@[simp] theorem State.setSlots_outside (s : State) (v : PerStation Port) (l : List Instr) (x : List SlotState) :
    (s.outside v l).setSlots x = (s.setSlots x).outside v l := rfl
@[simp] theorem State.setRing_outside (s : State) (v : PerStation Port) (l : List Instr) (n : Station) (r : Ring) :
    (s.outside v l).setRing n r = (s.setRing n r).outside v l := rfl
@[simp] theorem State.setLane_outside (s : State) (v : PerStation Port) (l : List Instr) (x : Lane) :
    (s.outside v l).setLane x = (s.setLane x).outside v l := rfl
@[simp] theorem State.setAcks_outside (s : State) (v : PerStation Port) (l : List Instr) (a : PerStation (List AckEntry)) :
    (s.outside v l).setAcks a = (s.setAcks a).outside v l := rfl
@[simp] theorem State.setQueue_outside (s : State) (v : PerStation Port) (l : List Instr) (n : Station) (q : EventQueue) :
    (s.outside v l).setQueue n q = (s.setQueue n q).outside v l := rfl
@[simp] theorem State.setDue_outside (s : State) (v : PerStation Port) (l : List Instr) (d : List Work) :
    (s.outside v l).setDue d = (s.setDue d).outside v l := rfl
@[simp] theorem State.setTimings_outside (s : State) (v : PerStation Port) (l : List Instr)
    (x : PerStation (List Event)) : (s.outside v l).setTimings x = (s.setTimings x).outside v l := rfl
@[simp] theorem State.emptyQueue_outside (s : State) (v : PerStation Port) (l : List Instr) (n : Station) :
    (s.outside v l).emptyQueue n = (s.emptyQueue n).outside v l := rfl
@[simp] theorem State.dropWork_outside (s : State) (v : PerStation Port) (l : List Instr) (w : Work) :
    (s.outside v l).dropWork w = (s.dropWork w).outside v l := rfl
@[simp] theorem State.passExamination_outside (s : State) (v : PerStation Port) (l : List Instr) (n : Station) :
    (s.outside v l).passExamination n = (s.passExamination n).outside v l := by
  unfold State.passExamination
  rw [State.leavesBeforeEpoch_outside]
  split <;> rfl
@[simp] theorem State.setStation_outside (s : State) (v : PerStation Port) (l : List Instr) (n : Station) (r : StationRec) :
    (s.outside v l).setStation n r = (s.setStation n r).outside v l := rfl
@[simp] theorem State.setCoordinator_outside (s : State) (v : PerStation Port) (l : List Instr) (c : Option Station) :
    (s.outside v l).setCoordinator c = (s.setCoordinator c).outside v l := rfl
@[simp] theorem State.setAckList_outside (s : State) (v : PerStation Port) (l : List Instr) (n : Station) (x : List AckEntry) :
    (s.outside v l).setAckList n x = (s.setAckList n x).outside v l := rfl
@[simp] theorem State.setSlot_outside (s : State) (v : PerStation Port) (l : List Instr) (k : Nat) (x : SlotState) :
    (s.outside v l).setSlot k x = (s.setSlot k x).outside v l := rfl
@[simp] theorem State.markRoles_outside (s : State) (v : PerStation Port) (l : List Instr) (n : Station) :
    (s.outside v l).markRoles n = (s.markRoles n).outside v l := rfl
@[simp] theorem State.discardChanges_outside (s : State) (v : PerStation Port) (l : List Instr) (n : Station) :
    (s.outside v l).discardChanges n = (s.discardChanges n).outside v l := rfl
@[simp] theorem State.stage_outside (s : State) (v : PerStation Port) (l : List Instr) (o : Option Station) (k : ChangeKind) (j : Nat) :
    (s.outside v l).stage o k j = (s.stage o k j).outside v l := rfl
@[simp] theorem State.ackCreate_outside (s : State) (v : PerStation Port) (l : List Instr) (n : Station) (q t : Byte) (d : Station) (o : Nat) :
    (s.outside v l).ackCreate n q t d o = (s.ackCreate n q t d o).outside v l := rfl
@[simp] theorem State.ackClear_outside (s : State) (v : PerStation Port) (l : List Instr) (n : Station) :
    (s.outside v l).ackClear n = (s.ackClear n).outside v l := rfl
@[simp] theorem State.abandon_outside (s : State) (v : PerStation Port) (l : List Instr)  :
    (s.outside v l).abandon  = (s.abandon ).outside v l := rfl
@[simp] theorem State.discardQueues_outside (s : State) (v : PerStation Port) (l : List Instr) (n : Station) :
    (s.outside v l).discardQueues n = (s.discardQueues n).outside v l := rfl
@[simp] theorem State.emptyReceive_outside (s : State) (v : PerStation Port) (l : List Instr) (n : Station) :
    (s.outside v l).emptyReceive n = (s.emptyReceive n).outside v l := rfl
@[simp] theorem State.laneDone_outside (s : State) (v : PerStation Port) (l : List Instr)  :
    (s.outside v l).laneDone  = (s.laneDone ).outside v l := rfl

/-! ## Operations that choose or repeat -/

theorem State.ite_outside (c : Prop) [Decidable c] (a b : State) (v : PerStation Port) (l : List Instr) :
    (if c then a.outside v l else b.outside v l) = (if c then a else b).outside v l := by split <;> rfl

theorem State.foldl_outside {β : Type} (f : State → β → State) (v : PerStation Port) (l : List Instr)
    (h : ∀ t x, f (t.outside v l) x = (f t x).outside v l) (xs : List β) (s : State) :
    xs.foldl f (s.outside v l) = (xs.foldl f s).outside v l := by
  induction xs generalizing s with
  | nil => rfl
  | cons x xs ih => simp only [List.foldl_cons, h, ih]

variable (s : State) (v : PerStation Port) (l : List Instr)

@[simp] theorem State.raise_outside (n : Station) (st : Stamp) (e : Event) :
    (s.outside v l).raise n st e = (s.raise n st e).outside v l := by
  by_cases h : s.present n = true <;> simp [State.raise, h]

@[simp] theorem State.raiseAll_outside (st : Stamp) (x : List (Station × Event)) :
    (s.outside v l).raiseAll st x = (s.raiseAll st x).outside v l :=
  State.foldl_outside _ v l (fun t y => t.raise_outside v l y.1 st y.2) x s

@[simp] theorem State.raiseToJoined_outside (st : Stamp) (e : Event) :
    (s.outside v l).raiseToJoined st e = (s.raiseToJoined st e).outside v l := by
  simp [State.raiseToJoined]

@[simp] theorem State.raiseToOthers_outside (n : Station) (st : Stamp) (e : Event) :
    (s.outside v l).raiseToOthers n st e = (s.raiseToOthers n st e).outside v l := by
  simp [State.raiseToOthers]

@[simp] theorem State.orphanRoles_outside (n : Station) (st : Stamp) :
    (s.outside v l).orphanRoles n st = (s.orphanRoles n st).outside v l := by
  simp [State.orphanRoles]

@[simp] theorem State.appendRing_outside (n : Station) (e : RingEntry) :
    (s.outside v l).appendRing n e = (s.appendRing n e).outside v l := by
  simp only [State.appendRing, State.outside_rings, State.setRing_outside, State.raise_outside, State.ite_outside]

@[simp] theorem State.latchOne_outside (k : Nat) : (s.outside v l).latchOne k = (s.latchOne k).outside v l := by
  simp only [State.latchOne, State.entry_outside, State.stamp_outside, State.slot_outside, State.setSlot_outside]
  exact State.foldl_outside _ v l (fun t c => by simp only [State.appendRing_outside, State.ite_outside]; rfl) _ _

@[simp] theorem State.latch_outside : (s.outside v l).latch = s.latch.outside v l :=
  State.foldl_outside _ v l (fun t k => t.latchOne_outside v l k) _ s

@[simp] theorem State.removeDueRoles_outside :
    (s.outside v l).removeDueRoles = s.removeDueRoles.outside v l := by
  simp [State.removeDueRoles]; rfl

@[simp] theorem State.commitChange_outside (c : Change) :
    (s.outside v l).commitChange c = (s.commitChange c).outside v l := by
  simp only [State.commitChange, State.outside_slotMap, State.changeOwner_outside, State.stamp_outside,
    State.outside_slots, State.entry_outside, State.setSlotMap_outside, State.setSlots_outside,
    State.raiseAll_outside, State.ite_outside]

@[simp] theorem State.commit_outside : (s.outside v l).commit = s.commit.outside v l := by
  simp only [State.commit, State.removeDueRoles_outside, State.outside_changes]
  rw [State.foldl_outside _ v l (fun t c => t.commitChange_outside v l c), State.setChanges_outside]

@[simp] theorem State.ackGranted_outside (m : Message) :
    (s.outside v l).ackGranted m = (s.ackGranted m).outside v l := by
  simp only [State.ackGranted, State.outside_acks, State.setAckList_outside, State.ite_outside]

@[simp] theorem State.ackDelivered_outside (m : Message) :
    (s.outside v l).ackDelivered m = (s.ackDelivered m).outside v l := by
  simp only [State.ackDelivered, State.outside_acks, State.setAckList_outside, State.stamp_outside, State.ite_outside]

@[simp] theorem State.ackGone_outside (m : Message) :
    (s.outside v l).ackGone m = (s.ackGone m).outside v l := by
  simp only [State.ackGone, State.outside_acks, State.setAckList_outside, State.ite_outside]

@[simp] theorem State.ackCountdown_outside : (s.outside v l).ackCountdown = s.ackCountdown.outside v l := by
  simp [State.ackCountdown]

@[simp] theorem State.ackResolve_outside (x : Station) (st : Stamp) :
    (s.outside v l).ackResolve x st = (s.ackResolve x st).outside v l := by
  simp [State.ackResolve]

@[simp] theorem State.grant_outside (n : Station) (c : MsgClass) :
    (s.outside v l).grant n c = (s.grant n c).outside v l := by
  simp only [State.grant, State.outside_lane]
  split
  · rfl
  · simp only [State.destinationsOf_outside, State.setLane_outside, State.ackGranted_outside]; rfl

@[simp] theorem State.deliver_outside (t : Transfer) :
    (s.outside v l).deliver t = (s.deliver t).outside v l := by
  simp [State.deliver]

@[simp] theorem State.undeliverable_outside (st : Stamp) (r : Reason) (m : Message) :
    (s.outside v l).undeliverable st r m = (s.undeliverable st r m).outside v l := by
  simp [State.undeliverable]

@[simp] theorem State.returnsOf_outside (x : Station) (st : Stamp) (n : Station) :
    (s.outside v l).returnsOf x st n = (s.returnsOf x st n).outside v l := by
  simp only [State.returnsOf, State.outside_lane, State.setLane_outside, State.returned_outside]
  exact State.foldl_outside _ v l (fun t m => t.undeliverable_outside v l st .peerGone m) _ _

@[simp] theorem State.returns_outside (x : Station) (st : Stamp) :
    (s.outside v l).returns x st = (s.returns x st).outside v l :=
  State.foldl_outside _ v l (fun t n => t.returnsOf_outside v l x st n) _ s

@[simp] theorem State.dropFromTransfer_outside (n : Station) (st : Stamp) :
    (s.outside v l).dropFromTransfer n st = (s.dropFromTransfer n st).outside v l := by
  simp only [State.dropFromTransfer, State.outside_lane]
  split
  · rfl
  · simp only [State.abandon_outside, State.undeliverable_outside, State.setLane_outside, State.ite_outside]

@[simp] theorem State.laneTransferStep_outside :
    (s.outside v l).laneTransferStep = s.laneTransferStep.outside v l := by
  simp only [State.laneTransferStep, State.outside_lane, State.setLane_outside, State.setLane_lane]
  split
  · rfl
  · simp only [State.deliver_outside, State.setLane_outside, State.laneDone_outside, State.outside_lane,
      State.ite_outside]
    rfl

@[simp] theorem State.laneArbitrate_outside :
    (s.outside v l).laneArbitrate = s.laneArbitrate.outside v l := by
  simp only [State.laneArbitrate, State.winner_outside, State.blockedHeads_outside]
  split <;> simp

@[simp] theorem State.raiseHold_outside (x : Station × MsgClass) :
    (s.outside v l).raiseHold x = (s.raiseHold x).outside v l := by
  simp only [State.raiseHold, State.outside_lane]
  split
  · rfl
  · simp only [State.setLane_outside, State.stamp_outside, State.undeliverable_outside, State.ite_outside]

@[simp] theorem State.laneHoldCount_outside (b : List (Station × MsgClass)) :
    (s.outside v l).laneHoldCount b = (s.laneHoldCount b).outside v l := by
  simp only [State.laneHoldCount]
  rw [State.foldl_outside _ v l (fun t x => t.raiseHold_outside v l x), State.laneDone_outside]

@[simp] theorem State.laneToArbitration_outside :
    (s.outside v l).laneToArbitration = s.laneToArbitration.outside v l := by
  simp only [State.laneToArbitration, State.outside_lane]
  split <;> simp

@[simp] theorem State.laneToHold_outside : (s.outside v l).laneToHold = s.laneToHold.outside v l := by
  simp only [State.laneToHold, State.laneToArbitration_outside, State.outside_lane]
  split <;> simp

@[simp] theorem State.laneFinish_outside : (s.outside v l).laneFinish = s.laneFinish.outside v l := by
  simp only [State.laneFinish, State.laneToHold_outside, State.outside_lane]
  split <;> simp

@[simp] theorem State.closeLane_outside : (s.outside v l).closeLane = s.closeLane.outside v l := by
  simp only [State.closeLane, State.outside_lane]
  split <;> simp

@[simp] theorem State.announce_outside (n : Station) (x : StationState) (c : Cause) (h : Bool) (st : Stamp) :
    (s.outside v l).announce n x c h st = (s.announce n x c h st).outside v l := by
  simp only [State.announce, State.raiseToOthers_outside, State.raiseToJoined_outside, State.ite_outside]

@[simp] theorem State.dropRole_outside (n : Station) :
    (s.outside v l).dropRole n = (s.dropRole n).outside v l := by
  by_cases h : s.holdsRole n = true <;> simp [State.dropRole, h]

@[simp] theorem State.depart_outside (n : Station) (x : StationState) (c : Cause) (st : Stamp) :
    (s.outside v l).depart n x c st = (s.depart n x c st).outside v l := by
  simp [State.depart]

@[simp] theorem State.endLeaving_outside (n : Station) (st : Stamp) :
    (s.outside v l).endLeaving n st = (s.endLeaving n st).outside v l := by
  simp [State.endLeaving]

@[simp] theorem State.leave_outside (n : Station) (st : Stamp) :
    (s.outside v l).leave n st = (s.leave n st).outside v l := by
  simp [State.leave]

@[simp] theorem State.leaseCountdown_outside (n : Station) :
    (s.outside v l).leaseCountdown n = (s.leaseCountdown n).outside v l := by
  simp only [State.leaseCountdown, State.station_outside, State.stamp_outside, State.depart_outside,
    State.setStation_outside, State.raise_outside, State.ite_outside]

@[simp] theorem State.examineLeaving_outside (n : Station) :
    (s.outside v l).examineLeaving n = (s.examineLeaving n).outside v l := by
  simp only [State.examineLeaving, State.station_outside, State.outside_lane, State.stamp_outside,
    State.endLeaving_outside, State.ite_outside]

@[simp] theorem State.raiseTimings_outside : (s.outside v l).raiseTimings = s.raiseTimings.outside v l := by
  simp [State.raiseTimings]

@[simp] theorem State.doWork_outside (w : Work) : (s.outside v l).doWork w = (s.doWork w).outside v l := by
  cases w <;> simp [State.doWork]

@[simp] theorem State.takeWork_outside (w : Work) : (s.outside v l).takeWork w = (s.takeWork w).outside v l := by
  simp only [State.takeWork, State.outside_due, State.closeLane_outside, State.dropWork_outside, State.doWork_outside,
    State.laneFinish_outside, State.ite_outside]

@[simp] theorem State.takeWorks_outside (x : List Work) :
    (s.outside v l).takeWorks x = (s.takeWorks x).outside v l :=
  State.foldl_outside _ v l (fun t w => t.takeWork_outside v l w) x s

@[simp] theorem State.settle_outside : (s.outside v l).settle = s.settle.outside v l := by
  simp [State.settle]

/-! ## The frame timer -/

@[simp] theorem State.raiseTiming_outside : (s.outside v l).raiseTiming = s.raiseTiming.outside v l := by
  simp [State.raiseTiming]

@[simp] theorem State.announceTiming_outside : (s.outside v l).announceTiming = s.announceTiming.outside v l := by
  unfold State.announceTiming; rfl

@[simp] theorem State.applyPendingTiming_outside :
    (s.outside v l).applyPendingTiming = s.applyPendingTiming.outside v l := by
  simp only [State.applyPendingTiming, State.outside_timer]
  split
  · rfl
  · simp only [State.setTimer_outside, State.announceTiming_outside, State.ite_outside]

@[simp] theorem State.makeBoundary_outside (b : Bool) :
    (s.outside v l).makeBoundary b = (s.makeBoundary b).outside v l := by
  simp only [State.makeBoundary, State.settle_outside, State.outside_timer, State.setTimer_outside,
    State.announceTiming_outside, State.ite_outside, State.applyPendingTiming_outside, State.setDue_outside]

@[simp] theorem State.internalTimer_outside : (s.outside v l).internalTimer = s.internalTimer.outside v l := by
  simp only [State.internalTimer, State.outside_timer]
  split
  · rfl
  · simp

@[simp] theorem State.substitute_outside : (s.outside v l).substitute = s.substitute.outside v l := by
  simp only [State.substitute, State.outside_timer]
  split
  · simp
  · rfl

@[simp] theorem State.badLockedEdge_outside : (s.outside v l).badLockedEdge = s.badLockedEdge.outside v l := by
  simp only [State.badLockedEdge, State.outside_timer, State.setTimer_outside, State.raiseTiming_outside,
    State.makeBoundary_outside, State.ite_outside]

@[simp] theorem State.goodLockedEdge_outside : (s.outside v l).goodLockedEdge = s.goodLockedEdge.outside v l := by
  simp only [State.goodLockedEdge, State.outside_timer, State.setTimer_outside, State.makeBoundary_outside,
    State.ite_outside]

@[simp] theorem State.lockEdge_outside : (s.outside v l).lockEdge = s.lockEdge.outside v l := by
  simp only [State.lockEdge, State.outside_timer, State.setTimer_outside, State.makeBoundary_outside,
    State.raiseTiming_outside, State.ite_outside]

@[simp] theorem State.judgedEdge_outside (i : Nat) : (s.outside v l).judgedEdge i = (s.judgedEdge i).outside v l := by
  simp only [State.judgedEdge, State.outside_timer, State.setTimer_outside, State.goodLockedEdge_outside,
    State.badLockedEdge_outside, State.lockEdge_outside, State.ite_outside]
  split <;> rfl

@[simp] theorem State.edge_outside : (s.outside v l).edge = s.edge.outside v l := by
  simp only [State.edge, State.outside_timer, State.closeLane_outside, State.takeWork_outside, State.setTimer_outside, State.judgedEdge_outside]
  split
  · rfl
  · split <;> rfl

@[simp] theorem State.ownBoundary_outside : (s.outside v l).ownBoundary = s.ownBoundary.outside v l := by
  simp only [State.ownBoundary, State.outside_timer, State.substitute_outside, State.internalTimer_outside]
  split <;> rfl

@[simp] theorem State.passTo_outside (i : Nat) : (s.outside v l).passTo i = (s.passTo i).outside v l := by
  simp only [State.passTo, State.settle_outside, State.outside_timer, State.setTimer_outside]

@[simp] theorem State.advance_outside (k i : Nat) :
    State.advance k i (s.outside v l) = (State.advance k i s).outside v l := by
  induction k generalizing s with
  | zero => exact s.passTo_outside v l i
  | succ k ih =>
    simp only [State.advance, State.outside_timer, State.ownBoundary_outside, ih, State.passTo_outside,
      State.ite_outside]

@[simp] theorem State.elapse_outside (n : Nat) : (s.outside v l).elapse n = (s.elapse n).outside v l := by
  simp only [State.elapse, State.outside_timer, State.advance_outside, State.ite_outside]

@[simp] theorem State.idle_outside : (s.outside v l).idle = s.idle.outside v l := by
  simp only [State.idle, State.outside_due, State.outside_timer, State.takeWork_outside, State.ownBoundary_outside,
    State.passTo_outside, State.ite_outside]
  split <;> rfl


/-! ## The requests -/

/-- A state and a reply, with other ports and other waiting commands. -/
def outsideReply (x : State × Reply) (v : PerStation Port) (l : List Instr) : State × Reply := (x.1.outside v l, x.2)

theorem outsideReply_ite (c : Prop) [Decidable c] (a b : State × Reply) (v : PerStation Port) (l : List Instr) :
    (if c then outsideReply a v l else outsideReply b v l) = outsideReply (if c then a else b) v l := by split <;> rfl

theorem outsideReply_mk (t : State) (r : Reply) (v : PerStation Port) (l : List Instr) :
    (t.outside v l, r) = outsideReply (t, r) v l := rfl

variable (p : Station) (ops : List Byte)

theorem serveJoin_outside : serveJoin p ops (s.outside v l) = outsideReply (serveJoin p ops s) v l := by
  simp [serveJoin, outsideReply_mk, outsideReply_ite]
theorem serveLeave_outside : serveLeave p ops (s.outside v l) = outsideReply (serveLeave p ops s) v l := by
  simp [serveLeave, outsideReply_mk]
theorem serveDetach_outside : serveDetach p ops (s.outside v l) = outsideReply (serveDetach p ops s) v l := by
  simp [serveDetach, outsideReply_mk]
theorem serveRenew_outside : serveRenew p ops (s.outside v l) = outsideReply (serveRenew p ops s) v l := by
  by_cases h : operand ops 0 = (s.station p).token <;> simp [serveRenew, outsideReply_mk, h]
theorem serveReadStatus_outside :
    serveReadStatus p ops (s.outside v l) = outsideReply (serveReadStatus p ops s) v l := by
  simp [serveReadStatus, outsideReply_mk]
theorem serveReadFrame_outside : serveReadFrame p ops (s.outside v l) = outsideReply (serveReadFrame p ops s) v l := rfl
theorem serveReadIdentity_outside :
    serveReadIdentity p ops (s.outside v l) = outsideReply (serveReadIdentity p ops s) v l := rfl
theorem serveClaimCoordinator_outside :
    serveClaimCoordinator p ops (s.outside v l) = outsideReply (serveClaimCoordinator p ops s) v l := by
  simp only [serveClaimCoordinator, State.outside_registry]
  split
  · simp [outsideReply_mk]
  · simp [outsideReply_mk, outsideReply_ite]
theorem serveResign_outside : serveResign p ops (s.outside v l) = outsideReply (serveResign p ops s) v l := by
  by_cases h : s.holdsRole p = true <;> simp [serveResign, outsideReply_mk, h]
theorem serveSetTiming_outside :
    serveSetTiming p ops (s.outside v l) = outsideReply (serveSetTiming p ops s) v l := by
  simp only [serveSetTiming]
  split
  · simp [outsideReply_mk, outsideReply_ite]
  · rfl
theorem serveSetLane_outside : serveSetLane p ops (s.outside v l) = outsideReply (serveSetLane p ops s) v l := by
  simp [serveSetLane, outsideReply_mk, outsideReply_ite]
theorem serveSetLease_outside : serveSetLease p ops (s.outside v l) = outsideReply (serveSetLease p ops s) v l := by
  simp [serveSetLease, outsideReply_mk, outsideReply_ite]
theorem serveEvict_outside : serveEvict p ops (s.outside v l) = outsideReply (serveEvict p ops s) v l := by
  simp only [serveEvict]
  split
  · rfl
  · rename_i n _
    by_cases h : s.present n = true <;> simp [outsideReply_mk, outsideReply_ite, h]
theorem stageRequest_outside (o : Option Station) (k : ChangeKind) (j : Nat) (own : Option Status) :
    (s.outside v l).stageRequest o k j own = outsideReply (s.stageRequest o k j own) v l := by
  simp only [State.stageRequest, State.stagingRefusal_outside]
  split
  · rfl
  · split
    · rfl
    · simp [State.accept, outsideReply_mk]
theorem serveForceRelease_outside :
    serveForceRelease p ops (s.outside v l) = outsideReply (serveForceRelease p ops s) v l := by
  simp [serveForceRelease, stageRequest_outside, outsideReply_mk, outsideReply_ite]; rfl
theorem serveClaimSlot_outside :
    serveClaimSlot p ops (s.outside v l) = outsideReply (serveClaimSlot p ops s) v l := by
  simp only [serveClaimSlot, State.projected_outside, stageRequest_outside]
  split
  · rfl
  · split
    · split <;> rfl
    · rfl
theorem serveReleaseSlot_outside :
    serveReleaseSlot p ops (s.outside v l) = outsideReply (serveReleaseSlot p ops s) v l := by
  simp [serveReleaseSlot, stageRequest_outside, outsideReply_mk, outsideReply_ite]; rfl
theorem serveSubscribe_outside :
    serveSubscribe p ops (s.outside v l) = outsideReply (serveSubscribe p ops s) v l := by
  simp only [serveSubscribe, State.projected_outside, stageRequest_outside]
  split
  · simp [outsideReply_mk, outsideReply_ite]
  · rfl
theorem serveUnsubscribe_outside :
    serveUnsubscribe p ops (s.outside v l) = outsideReply (serveUnsubscribe p ops s) v l := by
  simp [serveUnsubscribe, stageRequest_outside, outsideReply_mk, outsideReply_ite]; rfl
theorem serveWithdraw_outside : serveWithdraw p ops (s.outside v l) = outsideReply (serveWithdraw p ops s) v l := by
  simp only [serveWithdraw, State.outside_changes]
  split
  · rfl
  · split
    · simp [outsideReply_mk, outsideReply_ite]
    · by_cases h : s.holdsRole p = true <;> simp [outsideReply_mk, h]
theorem serveListChanges_outside :
    serveListChanges p ops (s.outside v l) = outsideReply (serveListChanges p ops s) v l := rfl
theorem serveReadMap_outside : serveReadMap p ops (s.outside v l) = outsideReply (serveReadMap p ops s) v l := by
  simp [serveReadMap, outsideReply_mk, outsideReply_ite]
theorem firstFailing_outside (i : Nat) (x : List (Nat × Word)) :
    (s.outside v l).firstFailing p i x = s.firstFailing p i x := by
  induction x generalizing i with
  | nil => rfl
  | cons y x ih => simp only [State.firstFailing, State.pairRefusal, State.entry_outside, ih]; rfl
theorem servePublish_outside : servePublish p ops (s.outside v l) = outsideReply (servePublish p ops s) v l := by
  simp only [servePublish, firstFailing_outside]
  split <;> simp [outsideReply_mk]
theorem serveReadSlot_outside : serveReadSlot p ops (s.outside v l) = outsideReply (serveReadSlot p ops s) v l := by
  simp [serveReadSlot, outsideReply_mk, outsideReply_ite]
theorem serveDrainRing_outside :
    serveDrainRing p ops (s.outside v l) = outsideReply (serveDrainRing p ops s) v l := by
  simp [serveDrainRing, outsideReply_mk, outsideReply_ite]
theorem serveSetWatermark_outside :
    serveSetWatermark p ops (s.outside v l) = outsideReply (serveSetWatermark p ops s) v l := by
  simp [serveSetWatermark, outsideReply_mk, outsideReply_ite]
theorem postRefusal_outside (o : PostOperands) : (s.outside v l).postRefusal p o = s.postRefusal p o := rfl
theorem enqueue_outside (m : Message) : (s.outside v l).enqueue p m = (s.enqueue p m).outside v l := by
  simp only [State.enqueue]
  split <;> simp
theorem servePost_outside : servePost p ops (s.outside v l) = outsideReply (servePost p ops s) v l := by
  simp only [servePost, postRefusal_outside]
  split
  · rfl
  · split
    · rfl
    · simp only [enqueue_outside]; rfl
theorem serveCancel_outside : serveCancel p ops (s.outside v l) = outsideReply (serveCancel p ops s) v l := by
  simp only [serveCancel, State.outside_lane]
  split
  · rfl
  · simp [outsideReply_mk, outsideReply_ite]
theorem serveTakeMessage_outside :
    serveTakeMessage p ops (s.outside v l) = outsideReply (serveTakeMessage p ops s) v l := by
  simp only [serveTakeMessage, State.outside_lane]
  split <;> rfl
theorem servePeekMessage_outside :
    servePeekMessage p ops (s.outside v l) = outsideReply (servePeekMessage p ops s) v l := by
  simp only [servePeekMessage, State.outside_lane]
  split <;> rfl
theorem serveAck_outside : serveAck p ops (s.outside v l) = outsideReply (serveAck p ops s) v l := by
  simp only [serveAck, State.outside_acks]
  split
  · rfl
  · split
    · rfl
    · split
      · rfl
      · simp [outsideReply_mk]
theorem serveQueueStatus_outside :
    serveQueueStatus p ops (s.outside v l) = outsideReply (serveQueueStatus p ops s) v l := rfl
theorem serveTakeEvent_outside :
    serveTakeEvent p ops (s.outside v l) = outsideReply (serveTakeEvent p ops s) v l := by
  simp only [serveTakeEvent, State.outside_events]
  split <;> rfl
theorem serveSetMask_outside : serveSetMask p ops (s.outside v l) = outsideReply (serveSetMask p ops s) v l := by
  simp [serveSetMask, outsideReply_mk, outsideReply_ite]

/-- No request reads the ports or the waiting commands, and none writes them. -/
theorem serve_outside (r : Request) : serve r p ops (s.outside v l) = outsideReply (serve r p ops s) v l := by
  cases r
  · exact serveJoin_outside s v l p ops
  · exact serveLeave_outside s v l p ops
  · exact serveDetach_outside s v l p ops
  · exact serveRenew_outside s v l p ops
  · exact serveReadStatus_outside s v l p ops
  · exact serveReadFrame_outside s v l p ops
  · exact serveReadIdentity_outside s v l p ops
  · exact serveClaimCoordinator_outside s v l p ops
  · exact serveResign_outside s v l p ops
  · exact serveSetTiming_outside s v l p ops
  · exact serveSetLane_outside s v l p ops
  · exact serveSetLease_outside s v l p ops
  · exact serveEvict_outside s v l p ops
  · exact serveForceRelease_outside s v l p ops
  · exact serveClaimSlot_outside s v l p ops
  · exact serveReleaseSlot_outside s v l p ops
  · exact serveSubscribe_outside s v l p ops
  · exact serveUnsubscribe_outside s v l p ops
  · exact serveWithdraw_outside s v l p ops
  · exact serveListChanges_outside s v l p ops
  · exact serveReadMap_outside s v l p ops
  · exact servePublish_outside s v l p ops
  · exact serveReadSlot_outside s v l p ops
  · exact serveDrainRing_outside s v l p ops
  · exact serveSetWatermark_outside s v l p ops
  · exact servePost_outside s v l p ops
  · exact serveCancel_outside s v l p ops
  · exact serveTakeMessage_outside s v l p ops
  · exact servePeekMessage_outside s v l p ops
  · exact serveAck_outside s v l p ops
  · exact serveQueueStatus_outside s v l p ops
  · exact serveTakeEvent_outside s v l p ops
  · exact serveSetMask_outside s v l p ops

theorem State.countdownFirst_outside (r : Request) :
    (s.outside v l).countdownFirst p r = (s.countdownFirst p r).outside v l := by
  simp only [State.countdownFirst, State.joined_outside, State.takeWork_outside, State.ite_outside]

theorem State.readyFor_outside (r : Request) : (s.outside v l).readyFor r = (s.readyFor r).outside v l := by
  simp only [State.readyFor, State.closeLane_outside, State.outside_due, State.dropWork_outside, State.raiseTimings_outside,
    State.ite_outside]

/-- A request at its instant leaves the ports and the waiting commands alone, and does not read them. -/
theorem State.takeRequest_outside (good : Bool) (code : Byte) (n : Nat) :
    (s.outside v l).takeRequest p good code n ops = outsideReply (s.takeRequest p good code n ops) v l := by
  simp only [State.takeRequest, State.countdownFirst_outside, State.registryRefusal_outside, State.readyFor_outside,
    serve_outside]
  split
  · rfl
  · split
    · rfl
    · split <;> rfl

end Sys2Proof.Machine
end

