-- ==== Sys2Proof/Laws/Link.lean ====
section
/-! SUPPORT. The port taken byte by byte: eight clocks give the byte, and a whole request frame on a selected port gives the
request its instant and the port its response. -/

namespace Sys2Proof.Machine

/-! ## Bytes and bits -/

/-- The bits of a byte, received in link order, give the byte. -/
theorem byteOfBits_byteBits : ∀ b : Byte, byteOfBits (byteBits b) = b := by decide

theorem byte_toNat {n : Nat} (h : n ≤ 255) : (byte n).toNat = n := by
  simp only [byte, BitVec.toNat_ofNat]; omega

/-! ## The check byte -/

theorem crc_cons (b : Byte) (l : List Byte) : crc (b :: l) = l.foldl crcByte (crcByte 0 b) := rfl

theorem crc_append (l k : List Byte) : crc (l ++ k) = k.foldl crcByte (crc l) := List.foldl_append

/-! ## Eight clocks -/

theorem State.clockBits_append (s : State) (p : Station) (l k : List Bool) :
    s.clockBits p (l ++ k) = (s.clockBits p l).clockBits p k := List.foldl_append

/-- The port is taking the bits of a request. -/
abbrev Phase.receiving (f : Phase) : Prop := f = .code ∨ f = .length ∨ f = .operands ∨ f = .check

/-- A bit that does not complete a byte is held. -/
theorem State.clockBit_hold (s : State) (p : Station) (b : Bool) (h : (s.ports.get p).phase.receiving)
    (hb : (s.ports.get p).bits.length + 1 < 8) :
    s.clockBit p b = s.setPort p { s.ports.get p with bits := (s.ports.get p).bits ++ [b] } := by
  unfold State.clockBit
  rcases h with h | h | h | h <;> simp [h, hb]

/-- The eighth bit completes the byte. -/
theorem State.clockBit_complete (s : State) (p : Station) (b : Bool) (h : (s.ports.get p).phase.receiving)
    (hb : ¬ (s.ports.get p).bits.length + 1 < 8) :
    s.clockBit p b = s.receiveByte p (byteOfBits ((s.ports.get p).bits ++ [b])) := by
  unfold State.clockBit
  rcases h with h | h | h | h <;> simp [h, hb]

/-- Bits short of a byte are held. -/
theorem State.clockBits_hold (p : Station) (l : List Bool) : ∀ (s : State),
    (s.ports.get p).phase.receiving → (s.ports.get p).bits.length + l.length < 8 →
    s.clockBits p l = s.setPort p { s.ports.get p with bits := (s.ports.get p).bits ++ l } := by
  induction l with
  | nil =>
    intro s _ _
    simp only [State.clockBits, List.foldl_nil, List.append_nil]
    show s = { s with ports := _ }
    rw [PerStation.set_get]
  | cons b l ih =>
    intro s h hl
    have hl' : (s.ports.get p).bits.length + (l.length + 1) < 8 := by simpa using hl
    have h1 := s.clockBit_hold p b h (by omega)
    show (s.clockBit p b).clockBits p l = _
    rw [h1, ih _ (by simpa using h) (by simp; omega)]
    simp [State.setPort]

/-! ## The request at its instant leaves the port alone -/

theorem State.takeRequest_ports (s : State) (p : Station) (good : Bool) (code : Byte) (n : Nat) (ops : List Byte) :
    (s.takeRequest p good code n ops).1.ports = s.ports :=
  congrArg (fun x => x.1.ports) (State.takeRequest_outside s s.ports s.pending p ops good code n)

theorem State.takeRequest_pending (s : State) (p : Station) (good : Bool) (code : Byte) (n : Nat) (ops : List Byte) :
    (s.takeRequest p good code n ops).1.pending = s.pending :=
  congrArg (fun x => x.1.pending) (State.takeRequest_outside s s.ports s.pending p ops good code n)

theorem State.takeRequest_setPort (s : State) (p : Station) (q : Port) (good : Bool) (code : Byte) (n : Nat)
    (ops : List Byte) :
    (s.setPort p q).takeRequest p good code n ops =
      ((s.takeRequest p good code n ops).1.setPort p q, (s.takeRequest p good code n ops).2) := by
  rw [State.setPort_eq_outside, State.takeRequest_outside, State.setPort_eq_outside, State.takeRequest_ports,
    State.takeRequest_pending]
  rfl

theorem State.setPort_setPort (s : State) (p : Station) (q r : Port) : (s.setPort p q).setPort p r = s.setPort p r := by
  simp [State.setPort]

/-- Receiving a byte does not read the bits held of it. -/
theorem State.receiveByte_setBits (s : State) (p : Station) (l : List Bool) (b : Byte)
    (h : (s.ports.get p).phase.receiving) :
    (s.setPort p { s.ports.get p with bits := l }).receiveByte p b = s.receiveByte p b := by
  unfold State.receiveByte
  simp only [State.setPort_ports, PerStation.get_set_same]
  rcases h with h | h | h | h <;>
    simp [h, State.setPort_setPort, State.takeRequest_setPort, Port.answering]

/-- Eight clocks from an empty byte receive the byte. -/
theorem State.clockBits_byte (s : State) (p : Station) (b : Byte) (h : (s.ports.get p).phase.receiving)
    (hb : (s.ports.get p).bits = []) : s.clockBits p (byteBits b) = s.receiveByte p b := by
  have e : byteBits b = (byteBits b).take 7 ++ [b.getLsbD 0] := rfl
  rw [e, State.clockBits_append, State.clockBits_hold p _ s h (by rw [hb]; simp [byteBits])]
  show State.clockBit _ p _ = _
  rw [State.clockBit_complete _ p _ (by simpa using h) (by simp [hb, byteBits])]
  rw [State.receiveByte_setBits s p _ _ h]
  simp only [State.setPort_ports, PerStation.get_set_same, hb, List.nil_append]
  rw [← e, byteOfBits_byteBits]

/-! ## A request frame -/

/-- Bytes clocked in one after another. -/
def State.clockBytes (s : State) (p : Station) (l : List Byte) : State := s.clockBits p (bytesBits l)

theorem State.clockBytes_cons (s : State) (p : Station) (b : Byte) (l : List Byte) :
    s.clockBytes p (b :: l) = (s.clockBits p (byteBits b)).clockBytes p l := by
  simp [State.clockBytes, bytesBits, State.clockBits_append]

/-- A selected port that has received a code, a length and some operand bytes. -/
def Port.filled (q : Port) (code : Byte) (n : Nat) (got : List Byte) : Port :=
  { q with phase := if got.length = n then .check else .operands, bits := [], code := code, length := byte n,
           operands := got.take Config.operandsKept, opCount := got.length,
           check := crc (code :: byte n :: got) }

/-- The operand bytes of a request, received one after another. -/
theorem State.clockBytes_operands (p : Station) (code : Byte) (n : Nat) (hn : n ≤ 255) (rest : List Byte) :
    ∀ (s : State) (q : Port) (got : List Byte), s.ports.get p = q.filled code n got → got.length + rest.length = n →
      s.clockBytes p rest = s.setPort p (q.filled code n (got ++ rest)) := by
  induction rest with
  | nil =>
    intro s q got h _
    rw [List.append_nil, ← h]
    show s = { s with ports := _ }
    rw [PerStation.set_get]
  | cons b rest ih =>
    intro s q got h hl
    have hne : got.length ≠ n := by simp at hl; omega
    have hph : (s.ports.get p).phase = .operands := by rw [h]; simp [Port.filled, hne]
    rw [State.clockBytes_cons, State.clockBits_byte s p b (Or.inr (Or.inr (Or.inl hph))) (by rw [h]; rfl)]
    have hr : s.receiveByte p b = s.setPort p (q.filled code n (got ++ [b])) := by
      unfold State.receiveByte
      simp only [hph]
      rw [h]
      congr 1
      have ht : (if got.length < Config.operandsKept then got.take Config.operandsKept ++ [b]
          else got.take Config.operandsKept) = (got ++ [b]).take Config.operandsKept := by
        by_cases hk : got.length < Config.operandsKept
        · rw [if_pos hk, List.take_of_length_le (by omega), List.take_of_length_le (by simp; omega)]
        · rw [if_neg hk, List.take_append_of_le_length (by omega)]
      have hc : crcByte (crc (code :: byte n :: got)) b = crc (code :: byte n :: (got ++ [b])) := by
        rw [← List.cons_append, ← List.cons_append, crc_append]; rfl
      simp only [Port.filled, hc, byte_toNat hn, List.length_append, List.length_cons, List.length_nil, Nat.zero_add]
      congr 1
    rw [hr, ih _ q (got ++ [b]) (by simp) (by simp at hl ⊢; omega)]
    simp [State.setPort_setPort]

/-- A whole request frame on a selected port: the request at its instant, then the port in RESPONSE (R161, R163). -/
theorem State.clockFrame_selected (s : State) (p : Station) (code : Byte) (f : Frame) (h : s.selected p)
    (hn : f.operands.length ≤ 255) :
    s.clockFrame p code f =
      (s.takeRequest p (f.check == crc (code :: byte f.operands.length :: f.operands)) code f.operands.length
          (f.operands.take Config.operandsKept)).1.replied p code f.operands
        (s.takeRequest p (f.check == crc (code :: byte f.operands.length :: f.operands)) code f.operands.length
          (f.operands.take Config.operandsKept)).2 := by
  obtain ⟨h1, h2, h3, h4, h5⟩ := h
  show s.clockBytes p (frameBytes code f) = _
  unfold frameBytes
  rw [State.clockBytes_cons, State.clockBits_byte s p code (Or.inl h1) h2]
  have hr1 : s.receiveByte p code = s.setPort p { s.ports.get p with
      bits := [], code := code, check := crcByte 0 code, phase := .length } := by
    unfold State.receiveByte; simp [h1, h5]
  rw [hr1, State.clockBytes_cons, State.clockBits_byte _ p _ (by simp [Phase.receiving]) (by simp)]
  have hr2 : (s.setPort p { s.ports.get p with
      bits := [], code := code, check := crcByte 0 code, phase := .length }).receiveByte p (byte f.operands.length) =
      s.setPort p ((s.ports.get p).filled code f.operands.length []) := by
    unfold State.receiveByte
    simp only [State.setPort_ports, PerStation.get_set_same, State.setPort_setPort]
    congr 1
    have hz : (byte f.operands.length = 0) ↔ (0 = f.operands.length) := by
      constructor
      · intro e; have := congrArg BitVec.toNat e; rw [byte_toNat hn] at this; simpa using this.symm
      · intro e; rw [← e]; rfl
    simp only [Port.filled, h3, h4, hz, List.take_nil, List.length_nil]
    rfl
  rw [hr2]
  show State.clockBytes _ p (f.operands ++ [f.check]) = _
  have happ : ∀ (t : State) (l k : List Byte), t.clockBytes p (l ++ k) = (t.clockBytes p l).clockBytes p k := by
    intro t l k; simp [State.clockBytes, bytesBits, State.clockBits_append]
  rw [happ, State.clockBytes_operands p code f.operands.length hn f.operands _ (s.ports.get p) [] (by simp) (by simp),
    State.setPort_setPort, List.nil_append, State.clockBytes_cons,
    State.clockBits_byte _ p _ (by simp [Port.filled, Phase.receiving]) (by simp [Port.filled])]
  show State.receiveByte _ p f.check = _
  unfold State.receiveByte
  simp only [State.setPort_ports, PerStation.get_set_same, Port.filled, if_true, State.takeRequest_setPort,
    byte_toNat hn, State.setPort_setPort]
  simp only [State.replied, Port.replied, Port.answering, State.takeRequest_ports]

/-! ## A request of the table with a right check byte -/

theorem Request.ofCode_code (r : Request) : Request.ofCode r.code = some r := by cases r <;> rfl

theorem Request.lengthOk_le {r : Request} {n : Nat} (h : r.lengthOk n = true) : n ≤ 66 := by
  cases r <;> simp [Request.lengthOk] at h <;> omega

/-- The request that a well-framed request of the table is: refused by the registry, answered by the port, or served by its
block (R163, R20, R32). -/
def State.answerTo (s : State) (p : Station) (r : Request) (ops : List Byte) : State × Reply :=
  let s1 := s.countdownFirst p r
  match s1.registryRefusal p r with
  | some st => (s1, refuse st)
  | none => if r = .readIdentity then serve r p ops s1 else serve r p ops (s1.readyFor r)

/-- No request but RENEW takes a countdown first (R25). -/
theorem State.countdownFirst_of_ne (s : State) (p : Station) (r : Request) (h : r ≠ .renew) :
    s.countdownFirst p r = s := if_neg (fun k => h k.1)

/-- A RENEW takes none where none is due at its station. -/
theorem State.countdownFirst_not_due (s : State) (p : Station) (r : Request) (h : Work.lease p ∉ s.due) :
    s.countdownFirst p r = s := by
  unfold State.countdownFirst State.takeWork
  rw [if_neg h, ite_self]

/-- A request at the registry or the timer comes after the TIMING of the boundary (R153). -/
theorem State.readyFor_registry (s : State) (r : Request) (h : Request.afterTiming r = true) :
    s.readyFor r = s.timingFirst := by
  unfold State.readyFor State.timingFirst
  simp only [h, true_and, State.raiseTimings_eq]
  rfl

/-- Another request comes after the lane's work begun alone (R120). -/
theorem State.readyFor_other (s : State) (r : Request) (h : Request.afterTiming r = false) :
    s.readyFor r = s.closeLane := by
  simp [State.readyFor, h]

/-- A request of the table, rightly framed, on a selected port. -/
theorem State.clockFrame_request (s : State) (p : Station) (r : Request) (ops : List Byte) (h : s.selected p)
    (hl : r.lengthOk ops.length = true) :
    s.clockFrame p r.code (requestFrame r.code ops) =
      (s.answerTo p r ops).1.replied p r.code ops (s.answerTo p r ops).2 := by
  have h66 := Request.lengthOk_le hl
  rw [State.clockFrame_selected s p r.code _ h (by simp only [requestFrame]; omega)]
  have e : s.takeRequest p ((requestFrame r.code ops).check ==
      crc (r.code :: byte (requestFrame r.code ops).operands.length :: (requestFrame r.code ops).operands)) r.code
      (requestFrame r.code ops).operands.length ((requestFrame r.code ops).operands.take Config.operandsKept) =
      s.answerTo p r ops := by
    simp only [requestFrame, beq_self_eq_true, State.takeRequest, portCheck, Request.ofCode_code, hl, if_true,
      List.take_of_length_le h66, State.answerTo]
    try rfl
  rw [e]
  rfl

/-- The row of a request of the table, on a selected port. -/
theorem exec_request (s : State) (p : Station) (r : Request) (ops : List Byte) (h : s.selected p)
    (hl : r.lengthOk ops.length = true) :
    exec (r.instr p (requestFrame r.code ops)) s =
      .next ((s.answerTo p r ops).1.replied p r.code ops (s.answerTo p r ops).2) := by
  rw [← State.clockFrame_request s p r ops h hl]
  cases r <;> rfl

end Sys2Proof.Machine
end

