-- ==== Sys2Proof/Laws/Works.lean ====
section
/-! SUPPORT. What no work of a boundary and no departure touches: the frame timer, the lease period setting, the reset cause,
the ports, the waiting commands. -/

namespace Sys2Proof.Machine

/-- t has the frame timer, the lease period setting and the reset cause of s. -/
structure State.SameFrame (s t : State) : Prop where
  timer   : t.timer = s.timer
  setting : t.registry.leaseSetting = s.registry.leaseSetting
  cause   : t.registry.resetCause = s.registry.resetCause

namespace State.SameFrame

theorem refl (s : State) : s.SameFrame s := ⟨rfl, rfl, rfl⟩

theorem trans {s t u : State} (h : s.SameFrame t) (k : t.SameFrame u) : s.SameFrame u :=
  ⟨k.timer.trans h.timer, k.setting.trans h.setting, k.cause.trans h.cause⟩

/-- After an update that leaves these three alone. -/
theorem after {s t u : State} (k : t.SameFrame u) (h1 : t.timer = s.timer)
    (h2 : t.registry.leaseSetting = s.registry.leaseSetting) (h3 : t.registry.resetCause = s.registry.resetCause) :
    s.SameFrame u := ⟨k.timer.trans h1, k.setting.trans h2, k.cause.trans h3⟩

theorem foldl {β : Type} {f : State → β → State} (h : ∀ t x, State.SameFrame t (f t x)) (l : List β) (s : State) :
    s.SameFrame (l.foldl f s) := by
  induction l generalizing s with
  | nil => exact refl s
  | cons x l ih => exact (h s x).trans (ih (f s x))

theorem ite {s a b : State} {c : Prop} [Decidable c] (ha : s.SameFrame a) (hb : s.SameFrame b) :
    s.SameFrame (if c then a else b) := by split <;> assumption

end State.SameFrame

open State.SameFrame in
theorem State.raise_same (s : State) (n : Station) (st : Stamp) (e : Event) : s.SameFrame (s.raise n st e) := by
  rw [State.raise_eq]; exact ⟨rfl, rfl, rfl⟩

theorem State.raiseAll_same (s : State) (st : Stamp) (l : List (Station × Event)) : s.SameFrame (s.raiseAll st l) := by
  rw [State.raiseAll_eq]; exact ⟨rfl, rfl, rfl⟩

theorem State.told_same (s : State) (c : Station → Bool) (st : Stamp) (e : Event) : s.SameFrame (s.told c st e) :=
  ⟨rfl, rfl, rfl⟩

theorem State.appendRing_same (s : State) (n : Station) (e : RingEntry) : s.SameFrame (s.appendRing n e) := by
  unfold State.appendRing
  refine State.SameFrame.ite (State.SameFrame.ite ?_ ⟨rfl, rfl, rfl⟩) (State.SameFrame.ite ?_ ⟨rfl, rfl, rfl⟩)
  · exact State.SameFrame.after (State.raise_same _ _ _ _) rfl rfl rfl
  · exact State.SameFrame.after (State.raise_same _ _ _ _) rfl rfl rfl

theorem State.latch_same (s : State) : s.SameFrame s.latch := by
  refine State.SameFrame.foldl (fun t k => ?_) _ s
  unfold State.latchOne
  refine State.SameFrame.after (State.SameFrame.foldl (fun u c => ?_) _ _) rfl rfl rfl
  exact State.SameFrame.ite (u.appendRing_same _ _) (State.SameFrame.refl u)

theorem State.commitChange_same (s : State) (c : Change) : s.SameFrame (s.commitChange c) := by
  unfold State.commitChange
  refine State.SameFrame.ite ?_ (State.raiseAll_same _ _ _)
  exact State.SameFrame.after (State.raiseAll_same _ _ _) rfl rfl rfl

theorem State.commit_same (s : State) : s.SameFrame s.commit := by
  have h1 : s.SameFrame s.removeDueRoles :=
    State.SameFrame.after (State.raiseAll_same _ _ _) rfl rfl rfl
  have h2 := h1.trans (State.SameFrame.foldl (fun t c => t.commitChange_same c) s.removeDueRoles.changes _)
  exact ⟨h2.timer, h2.setting, h2.cause⟩

theorem State.ackCountdown_same (s : State) : s.SameFrame s.ackCountdown :=
  State.SameFrame.after (State.raiseAll_same _ _ _) rfl rfl rfl

theorem State.ackGone_same (s : State) (m : Message) : s.SameFrame (s.ackGone m) :=
  State.SameFrame.ite ⟨rfl, rfl, rfl⟩ (State.SameFrame.refl s)

theorem State.ackGranted_same (s : State) (m : Message) : s.SameFrame (s.ackGranted m) :=
  State.SameFrame.ite ⟨rfl, rfl, rfl⟩ (State.SameFrame.refl s)

theorem State.ackDelivered_same (s : State) (m : Message) : s.SameFrame (s.ackDelivered m) :=
  State.SameFrame.ite ⟨rfl, rfl, rfl⟩ (State.SameFrame.refl s)

theorem State.undeliverable_same (s : State) (st : Stamp) (r : Reason) (m : Message) :
    s.SameFrame (s.undeliverable st r m) := (s.raise_same _ _ _).trans (State.ackGone_same _ _)

theorem State.deliver_same (s : State) (t : Transfer) : s.SameFrame (s.deliver t) := by
  unfold State.deliver
  refine .trans ?_ (State.ackDelivered_same _ _)
  exact State.SameFrame.after (State.raiseAll_same _ _ _) rfl rfl rfl

theorem State.grant_same (s : State) (n : Station) (c : MsgClass) : s.SameFrame (s.grant n c) := by
  unfold State.grant
  split
  · exact State.SameFrame.refl s
  · exact State.SameFrame.after (State.ackGranted_same _ _) rfl rfl rfl

theorem State.laneTransferStep_same (s : State) : s.SameFrame s.laneTransferStep := by
  unfold State.laneTransferStep
  simp only
  split
  · exact ⟨rfl, rfl, rfl⟩
  · rename_i t _
    refine State.SameFrame.ite ?_ ⟨rfl, rfl, rfl⟩
    have h := State.deliver_same (s.setLane s.lane.withSettings) t
    exact ⟨h.timer, h.setting, h.cause⟩

theorem State.laneArbitrate_same (s : State) : s.SameFrame s.laneArbitrate := by
  unfold State.laneArbitrate
  simp only
  split
  · rename_i x _
    have h := s.grant_same x.1 x.2
    exact ⟨h.timer, h.setting, h.cause⟩
  · exact ⟨rfl, rfl, rfl⟩

theorem State.raiseHold_same (s : State) (x : Station × MsgClass) : s.SameFrame (s.raiseHold x) := by
  unfold State.raiseHold
  split
  · exact State.SameFrame.refl s
  · exact State.SameFrame.ite
      (State.SameFrame.after (State.undeliverable_same _ _ _ _) rfl rfl rfl) ⟨rfl, rfl, rfl⟩

theorem State.laneHoldCount_same (s : State) (b : List (Station × MsgClass)) : s.SameFrame (s.laneHoldCount b) := by
  have h := State.SameFrame.foldl (fun t x => t.raiseHold_same x) b s
  exact ⟨h.timer, h.setting, h.cause⟩

theorem State.laneToArbitration_same (s : State) : s.SameFrame s.laneToArbitration := by
  unfold State.laneToArbitration
  split
  · exact s.laneTransferStep_same
  · exact State.SameFrame.refl s

theorem State.laneToHold_same (s : State) : s.SameFrame s.laneToHold := by
  unfold State.laneToHold
  simp only
  split
  · exact s.laneToArbitration_same.trans (State.laneArbitrate_same _)
  · exact s.laneToArbitration_same

theorem State.laneFinish_same (s : State) : s.SameFrame s.laneFinish := by
  unfold State.laneFinish
  simp only
  split
  · exact s.laneToHold_same.trans (State.laneHoldCount_same _ _)
  · exact s.laneToHold_same

/-- Lane work begun and finished leaves the timer and the settings of the registry alone. -/
theorem State.closeLane_same (s : State) : s.SameFrame s.closeLane := by
  unfold State.closeLane
  split
  · exact State.SameFrame.refl s
  · exact s.laneFinish_same

theorem State.announce_same (s : State) (n : Station) (x : StationState) (c : Cause) (h : Bool) (st : Stamp) :
    s.SameFrame (s.announce n x c h st) := by
  have h1 : s.SameFrame (s.raiseToOthers n st (.stationChanged n x c)) := State.raiseAll_same _ _ _
  exact State.SameFrame.ite (h1.trans (State.raiseAll_same _ _ _)) h1

theorem State.dropRole_same (s : State) (n : Station) : s.SameFrame (s.dropRole n) :=
  State.SameFrame.ite ⟨rfl, rfl, rfl⟩ (State.SameFrame.refl s)

theorem State.orphanRoles_same (s : State) (n : Station) (st : Stamp) : s.SameFrame (s.orphanRoles n st) :=
  State.SameFrame.after (State.raiseAll_same _ _ _) rfl rfl rfl

theorem State.ackResolve_same (s : State) (x : Station) (st : Stamp) : s.SameFrame (s.ackResolve x st) :=
  State.SameFrame.after (State.raiseAll_same _ _ _) rfl rfl rfl

theorem State.returns_same (s : State) (x : Station) (st : Stamp) : s.SameFrame (s.returns x st) := by
  refine State.SameFrame.foldl (fun t n => ?_) _ s
  exact State.SameFrame.after (State.SameFrame.foldl (fun u m => u.undeliverable_same _ _ m) _ _) rfl rfl rfl

theorem State.dropFromTransfer_same (s : State) (n : Station) (st : Stamp) : s.SameFrame (s.dropFromTransfer n st) := by
  unfold State.dropFromTransfer
  split
  · exact State.SameFrame.refl s
  · refine State.SameFrame.ite ⟨rfl, rfl, rfl⟩ (State.SameFrame.ite ?_ (State.SameFrame.refl s))
    exact State.SameFrame.ite
      (State.SameFrame.after (State.undeliverable_same _ _ _ _) rfl rfl rfl) ⟨rfl, rfl, rfl⟩

theorem State.emptyQueue_same (s : State) (n : Station) : s.SameFrame (s.emptyQueue n) := ⟨rfl, rfl, rfl⟩
theorem State.setStation_same (s : State) (n : Station) (r : StationRec) : s.SameFrame (s.setStation n r) :=
  ⟨rfl, rfl, rfl⟩
theorem State.setRing_same (s : State) (n : Station) (r : Ring) : s.SameFrame (s.setRing n r) := ⟨rfl, rfl, rfl⟩
theorem State.discardChanges_same (s : State) (n : Station) : s.SameFrame (s.discardChanges n) := ⟨rfl, rfl, rfl⟩
theorem State.markRoles_same (s : State) (n : Station) : s.SameFrame (s.markRoles n) := ⟨rfl, rfl, rfl⟩
theorem State.discardQueues_same (s : State) (n : Station) : s.SameFrame (s.discardQueues n) := ⟨rfl, rfl, rfl⟩
theorem State.emptyReceive_same (s : State) (n : Station) : s.SameFrame (s.emptyReceive n) := ⟨rfl, rfl, rfl⟩
theorem State.ackClear_same (s : State) (n : Station) : s.SameFrame (s.ackClear n) := ⟨rfl, rfl, rfl⟩

theorem State.depart_same (s : State) (n : Station) (x : StationState) (c : Cause) (st : Stamp) :
    s.SameFrame (s.depart n x c st) := by
  unfold State.depart
  refine .trans ?_ (State.emptyQueue_same _ _)
  refine .trans ?_ (State.ackResolve_same _ _ _)
  refine .trans ?_ (State.ackClear_same _ _)
  refine .trans ?_ (State.returns_same _ _ _)
  refine .trans ?_ (State.emptyReceive_same _ _)
  refine .trans ?_ (State.dropFromTransfer_same _ _ _)
  refine .trans ?_ (State.discardQueues_same _ _)
  refine .trans ?_ (State.setRing_same _ _ _)
  refine .trans ?_ (State.discardChanges_same _ _)
  refine .trans ?_ (State.orphanRoles_same _ _ _)
  refine .trans ?_ (State.announce_same _ _ _ _ _ _)
  exact .trans (State.setStation_same _ _ _) (State.dropRole_same _ _)

theorem State.endLeaving_same (s : State) (n : Station) (st : Stamp) : s.SameFrame (s.endLeaving n st) := by
  unfold State.endLeaving
  refine .trans ?_ (State.emptyQueue_same _ _)
  refine .trans ?_ (State.ackResolve_same _ _ _)
  refine .trans ?_ (State.returns_same _ _ _)
  refine .trans ?_ (State.emptyReceive_same _ _)
  refine .trans ?_ (State.setRing_same _ _ _)
  refine .trans ?_ (State.discardChanges_same _ _)
  refine .trans ?_ (State.orphanRoles_same _ _ _)
  exact .trans (State.setStation_same _ _ _) (State.announce_same _ _ _ _ _ _)

theorem State.leave_same (s : State) (n : Station) (st : Stamp) : s.SameFrame (s.leave n st) := by
  unfold State.leave
  refine .trans ?_ (State.ackClear_same _ _)
  refine .trans ?_ (State.returns_same _ _ _)
  refine .trans ?_ (State.discardQueues_same _ _)
  refine .trans ?_ (State.discardChanges_same _ _)
  refine .trans ?_ (State.markRoles_same _ _)
  refine .trans ?_ (State.announce_same _ _ _ _ _ _)
  exact .trans (State.setStation_same _ _ _) (State.dropRole_same _ _)

theorem State.raiseTimings_same (s : State) : s.SameFrame s.raiseTimings := by
  rw [State.raiseTimings_eq]; exact ⟨rfl, rfl, rfl⟩

theorem State.doWork_same (s : State) (w : Work) : s.SameFrame (s.doWork w) := by
  cases w with
  | timing => exact s.raiseTimings_same
  | lease n =>
    show s.SameFrame (s.leaseCountdown n)
    unfold State.leaseCountdown
    refine State.SameFrame.ite (State.SameFrame.ite (State.depart_same _ _ _ _ _) (State.SameFrame.ite ?_ ⟨rfl, rfl, rfl⟩))
      (State.SameFrame.refl s)
    exact State.SameFrame.after (State.raise_same _ _ _ _) rfl rfl rfl
  | latch => exact s.latch_same
  | lane => exact s.laneFinish_same
  | ack => exact s.ackCountdown_same
  | commit => exact s.commit_same
  | leaving n => exact State.SameFrame.ite (State.endLeaving_same _ _ _) (State.SameFrame.refl s)

theorem State.takeWork_same (s : State) (w : Work) : s.SameFrame (s.takeWork w) := by
  refine State.SameFrame.ite (State.SameFrame.ite s.laneFinish_same ?_) (State.SameFrame.refl s)
  exact State.SameFrame.after (State.doWork_same _ _) s.closeLane_same.timer s.closeLane_same.setting
    s.closeLane_same.cause

/-- Works taken leave the timer and the settings of the registry alone. -/
theorem State.takeWorks_same (s : State) (l : List Work) : s.SameFrame (s.takeWorks l) :=
  State.SameFrame.foldl (fun t w => t.takeWork_same w) l s

theorem State.settle_same (s : State) : s.SameFrame s.settle := s.takeWorks_same _

/-! ## Ports and waiting commands -/

theorem State.takeWorks_ports (s : State) (l : List Work) : (s.takeWorks l).ports = s.ports := by
  have h := congrArg State.ports (State.takeWorks_outside s s.ports s.pending l)
  exact h

theorem State.takeWorks_pending (s : State) (l : List Work) : (s.takeWorks l).pending = s.pending := by
  have h := congrArg State.pending (State.takeWorks_outside s s.ports s.pending l)
  exact h

theorem State.closeLane_ports (s : State) : s.closeLane.ports = s.ports := by
  have h := congrArg State.ports (State.closeLane_outside s s.ports s.pending)
  exact h

theorem State.closeLane_pending (s : State) : s.closeLane.pending = s.pending := by
  have h := congrArg State.pending (State.closeLane_outside s s.ports s.pending)
  exact h

/-! ## Nothing due -/

/-- Between boundaries no lane work is half done: there is none to finish. -/
theorem State.closeLane_quiet (s : State) (h : s.lane.phase = .transferStep) : s.closeLane = s := by
  unfold State.closeLane; rw [h]

/-- A work that is not due is not taken. -/
theorem State.takeWork_not_due (s : State) (w : Work) (h : w ∉ s.due) : s.takeWork w = s := if_neg h

/-- With nothing due, no work is taken. -/
theorem State.takeWorks_none (s : State) (l : List Work) (h : s.due = []) : s.takeWorks l = s := by
  induction l with
  | nil => rfl
  | cons w l ih =>
    show (s.takeWork w).takeWorks l = s
    rw [s.takeWork_not_due w (by simp [h]), ih]

theorem State.settle_none (s : State) (h : s.due = []) : s.settle = s := s.takeWorks_none _ h

end Sys2Proof.Machine
end

