-- ==== Sys2Proof/Tests/Slice0.lean ====
section
/-! SUPPORT. The model's own tests: the WellFormed checks refuse ill-formed commands, values of the manual's worked examples,
and for every statement with hypotheses a concrete state and operands that meet them, clause by clause at boundary values. -/

namespace Sys2Proof.Tests

open Sys2Proof Sys2Proof.Machine

-- One theorem after another: many small kernel evaluations at once would each hold a thread.
set_option Elab.async false

/-! ## WellFormed refuses ill-formed commands -/

theorem test_wf_operand_count :
    (Instr.post .s1 { operands := List.replicate 256 0, check := 0 }).wf = false ∧
    (Instr.post .s1 { operands := List.replicate 255 0, check := 0 }).wf = true := by decide +kernel

theorem test_wf_order :
    (Instr.internalTimerRunsOut [.latch, .latch]).wf = false ∧ (Instr.frefEdge 0 [.lane, .ack, .lane]).wf = false ∧
    (Instr.substituteDeadline [.commit, .commit]).wf = false ∧
    (Instr.internalTimerRunsOut (boundaryWorks true)).wf = true := by decide

theorem test_wf_unknown_code :
    (Instr.unknownRequest .s1 0x05 { operands := [], check := 0 }).wf = false ∧
    (Instr.unknownRequest .s1 0x0F { operands := [], check := 0 }).wf = true := by decide

/-! ## Small states -/

/-- The state after a command; no command stops. -/
def after (c : Instr) (s : State) : State :=
  match exec c s with
  | .next t => t
  | .fault _ => s
  | .refused _ => s

theorem exec_after (c : Instr) (s : State) : ∃ t, exec c s = .next t := by
  cases h : exec c s with
  | next t => exact ⟨t, rfl⟩
  | fault f => exact nomatch f
  | refused r => cases c <;> cases h

/-- Station 1's port selected after reset, nobody joined. -/
def alone : State := State.reset.setPort .s1 (State.reset.ports.get .s1).fall

/-- A station record in the given state under the given name, with token 5. -/
def recordIn (state : StationState) (name : Name) (lease : Nat) : StationRec :=
  { resetStation with state := state, name := name, leaseCounter := lease, token := 5 }

/-- Stations 1 and 2 JOINED, port 1 selected. -/
def two : State := (alone.setStation .s1 (recordIn .joined 1 64)).setStation .s2 (recordIn .joined 2 64)

/-- As `two`, and station 1 holds the coordinator role. -/
def lead : State := two.setCoordinator (some .s1)

/-- As `two`, but station 1 is LEAVING. -/
def parting : State := two.setStation .s1 (recordIn .leaving 1 64)

/-- The response a port holds, as bytes. -/
def answer (s : State) (p : Station) : Option (List Byte) :=
  (s.ports.get p).response.map (fun r => r.status :: r.length :: (r.results ++ [r.check]))

/-- A message of station 1. -/
def note (cls : MsgClass) (dest : Option Station) (tag : Byte) (posted : Nat) : Message :=
  { source := .s1, dest := dest, cls := cls, tag := tag, seq := BitVec.ofNat 8 posted, ackTimeout := none,
    payload := [1], stamp := 0, hold := 0, posted := posted }

/-- A LOCKED timer with P = 1,000, its anchor, previous edge and last boundary at 5,000. -/
def lockedTimer (faults : Nat) (now : Nat) : Timer :=
  { resetTimer with
    mode := .follow, refState := .locked, faultCount := faults, prevEdge := some 5000, anchor := 5000,
    lastBoundary := 5000, now := now }

def locked (faults now : Nat) : State := State.reset.setTimer (lockedTimer faults now)

/-! ## Values of the manual's examples -/

/-- Section 11.9: TAKE EVENT on an empty queue is answered 02h 01h 00h C3h. -/
theorem test_take_event_empty :
    answer (after (.takeEvent .s1 { operands := [], check := 0x51 }) two) .s1 = some [0x02, 0x01, 0x00, 0xC3] := by
  decide +kernel

/-- Section 11.9: with check byte 50h in place of 51h the answer is 10h 00h 57h. -/
theorem test_bad_check :
    answer (after (.takeEvent .s1 { operands := [], check := 0x50 }) two) .s1 = some [0x10, 0x00, 0x57] := by
  decide +kernel

/-- Section 11.9: the MESSAGE_ARRIVED (1, NORMAL, 12) stamped 702 as the oldest of three records. -/
theorem test_take_event_record :
    let r : EventRecord := { stamp := 702, event := .messageArrived .s1 .normal 12 }
    let s := two.setQueue .s1 { emptyEvents with records := [r, r, r] }
    (answer (after (.takeEvent .s1 { operands := [], check := 0x51 }) s) .s1).map (fun l => l.take 10) =
      some [0x00, 0x08, 0x07, 0x02, 0xBE, 0x01, 0x00, 0x0C, 0x00, 0x02] := by decide +kernel

/-- Section 11.8: the whole exchange of READ IDENTITY, from a station that has not joined. -/
theorem test_read_identity :
    answer (after (.readIdentity .s1 (requestFrame 0x07 [])) alone) .s1 =
      some [0x00, 0x05, 0x2E, 0x17, 0x01, 0xB4, 0x01, crc [0x00, 0x05, 0x2E, 0x17, 0x01, 0xB4, 0x01]] := by
  decide +kernel

/-- Section 1.8: the lock edge at 4,431 with P = 1,000, good count 3 and the last boundary at 4,000 makes frame 37. -/
theorem test_lock_edge :
    let t : Timer := { resetTimer with
      mode := .follow, refState := .seeking, frame := 36, goodCount := 3, prevEdge := some 3432, lastBoundary := 4000,
      now := 4000 }
    let u := (after (.frefEdge 431 []) (State.reset.setTimer t)).timer
    u.frame = 37 ∧ u.refState = .locked ∧ u.goodCount = 0 ∧ u.lastInterval = 999 ∧ u.anchor = 4431 := by decide +kernel

/-- Section 1.9: the third substitute deadline falls at 3,045 and brings LOST at frame 103. -/
theorem test_third_substitute :
    let t : Timer := { resetTimer with
      mode := .follow, refState := .locked, frame := 102, faultCount := 2, prevEdge := some 0, anchor := 2030,
      lastBoundary := 2030, now := 2030 }
    let u := (after (.substituteDeadline []) (State.reset.setTimer t)).timer
    u.frame = 103 ∧ u.refState = .lost ∧ u.faultCount = 3 ∧ u.now = 3045 := by decide +kernel

/-- R70 to R74 against a map whose slot 0 station 1 produces and stations 2 and 3 consume: results in the order of the checks,
and a SUBSCRIBE that keeps its record's place. -/
theorem test_change_outcomes :
    let live := fun (n : Station) => ({ station := n, mode := .every, releaseDue := false, orphaned := false } : Consumer)
    let e : SlotEntry :=
      { producer := some { station := .s1, releaseDue := false, orphaned := false }, consumers := [live .s2, live .s3] }
    let gives := fun (n : Option Station) (kind : ChangeKind) (k : Nat) =>
      ({ id := 0, origin := n, kind := kind, slot := k, stamp := 0 } : Change).outcome [e, { e with producer := none }]
    ((gives (some .s1) .claim 0).1 = .slotHeld ∧ (gives (some .s2) .claim 1).1 = .self ∧
      (gives (some .s2) .release 0).1 = .notOwner ∧ (gives none .forceRelease 1).1 = .noEntry ∧
      (gives (some .s1) (.subscribe .every) 0).1 = .self ∧ (gives (some .s4) .unsubscribe 0).1 = .notSubscribed) ∧
    (gives none .forceRelease 0 = (.ok, { e with producer := none }) ∧
      gives (some .s2) (.subscribe .fresh) 0 = (.ok, { e with consumers := [{ live .s2 with mode := .fresh }, live .s3] }) ∧
      gives (some .s4) (.subscribe .every) 0 = (.ok, { e with consumers := [live .s2, live .s3, live .s4] }) ∧
      gives (some .s2) .unsubscribe 0 = (.ok, { e with consumers := [live .s3] })) := by decide

/-- R12 with R11: two faults stand, and the deadline is taken before the good edge of the same instant: lock is lost, and the
edge counts toward the next one. -/
theorem test_third_fault_before_a_good_edge :
    let u := (after (.frefEdge 0 []) (after (.substituteDeadline []) (locked 2 5100))).timer
    u.refState = .lost ∧ u.faultCount = 3 ∧ u.goodCount = 1 ∧ u.lastBoundary = 6015 := by decide +kernel

/-- R15: the lock edge makes the boundary into frame 64 with a record of a new period pending: TIMING with LOCKED, then TIMING
with the new period and SEEKING, both stamped 64, and no previous edge. -/
theorem test_lock_with_pending_record :
    let t : Timer := { resetTimer with
      mode := .follow, refState := .seeking, frame := 63, goodCount := 3, prevEdge := some 3432, lastBoundary := 4000,
      now := 4000, pendingTiming := some { period := 2000, mode := .follow } }
    let u := after (.frefEdge 431 [.timing]) (two.setTimer t)
    (u.events.get .s1).records = [{ stamp := 64, event := .timing 1000 .follow .locked },
      { stamp := 64, event := .timing 2000 .follow .seeking }] ∧
    u.timer.refState = .seeking ∧ u.timer.prevEdge = none ∧ u.timer.pendingTiming = none := by decide +kernel

/-- R153: at the boundary of a third substitute deadline, LEASE_LOW stands in station 1's queue before TIMING or after it, as
the order of the works says. -/
theorem test_timing_in_either_order :
    let s := (locked 2 5100).setRegistry (two.setStation .s1 (recordIn .joined 1 9)).registry
    let queue := fun order => ((after (.substituteDeadline order) s).events.get .s1).records.map (fun r => r.event)
    queue [.timing, .lease .s1] = [.timing 1000 .follow .lost, .leaseLow 8] ∧
    queue [.lease .s1, .timing] = [.leaseLow 8, .timing 1000 .follow .lost] := by decide +kernel

/-- R17, R153, R157: the boundary of a third substitute deadline raises TIMING to the stations JOINED when it is made. Station 2
joins after it and gets none, station 1 leaves after it and keeps its own; at station 3 both changes stand after TIMING. -/
theorem test_timing_before_a_join_or_leave_after_the_boundary :
    let ready := ((two.setStation .s2 resetStation).setStation .s3 (recordIn .joined 3 64)).setPort .s2
      (State.reset.ports.get .s2).fall
    let s := after (.substituteDeadline []) (ready.setTimer (lockedTimer 2 5100))
    let joined := (after (.join .s2 (requestFrame 0x01 [0, 0, 0, 7])) s).settle
    let left := (after (.leave .s1 (requestFrame 0x02 [])) s).settle
    let timing : EventRecord := { stamp := s.stamp, event := .timing 1000 .follow .lost }
    ((joined.events.get .s3).records = [timing, { stamp := s.stamp, event := .stationChanged .s2 .joined .none }] ∧
      (joined.events.get .s2).records = []) ∧
    (left.events.get .s3).records = [timing, { stamp := s.stamp, event := .stationChanged .s1 .leaving .left }] ∧
    (left.events.get .s1).records = [timing] := by decide +kernel

/-- R25, R23: JOIN at frame 16, after the end of LEAVING at its boundary, takes token 16 and is not counted down at that
boundary. -/
theorem test_join_after_the_boundary :
    let s := (parting.setTimer { resetTimer with frame := 16 }).setDue (boundaryWorks true)
    let u := after (.join .s1 (requestFrame 0x01 [0, 0, 0, 7])) (after (.endOfLeaving .s1) s)
    let v := u.settle
    (u.station .s1).token = 16 ∧ (v.station .s1).leaseCounter = 64 ∧ (v.station .s2).leaseCounter = 63 := by
  decide +kernel

/-- R43, R31: a LEAVE after the commit of an epoch boundary stays LEAVING through the following epoch. -/
theorem test_leave_after_the_commit :
    let s := (two.setTimer { resetTimer with frame := 16 }).setDue (boundaryWorks true)
    let u := after (.leave .s1 (requestFrame 0x02 [])) (s.takeWork .commit)
    (s.takeWork .commit).due.contains .commit = false ∧ (u.settle.station .s1).state = .leaving := by decide +kernel

/-- R144, R145: a message delivered at the boundary into frame 3 and acknowledged before that boundary's countdown is ACKED in
frame 3. -/
theorem test_ack_in_the_frame_of_delivery :
    let s := ((two.setTimer { resetTimer with frame := 3 }).setAckList .s2
      [{ seq := 4, tag := 9, dest := .s1, timeout := 1, state := .delivered 1 3 }]).setDue [.ack]
    ((after (.ack .s1 (requestFrame 0x34 [2, 4])) s).events.get .s2).records =
      [{ stamp := 3, event := .acked 4 9 }] := by decide +kernel

/-! ## Witnesses: the machine -/

theorem witness_EmptyQueueLetsTimePass :
    let s := State.reset
    let late := s.setTimer { s.timer with now := 1000 }
    (s.pending = [] ∧ s.due = [] ∧ s.timer.now < s.timer.deadline) ∧
    (late.pending = [] ∧ late.due = [] ∧ late.timer.deadline ≤ late.timer.now) := by decide

theorem witness_CommandsKeepTheQueueAndTheResetCause :
    (exec .laneGrant State.reset = .next State.reset ∧ (∀ k, Instr.laneGrant ≠ .hubReset k)) ∧
    (∃ t, exec (.hubReset .powerOn) two = .next t) ∧ (∃ t, exec (.hubReset .pin) two = .next t) :=
  ⟨⟨rfl, fun k => by simp⟩, ⟨_, rfl⟩, ⟨_, rfl⟩⟩

/-! ## Witnesses: frame timer -/

/-- A SEEKING timer with P = 1,000, the previous edge at 5,000 and the last boundary at 5,500. -/
def seeking (good : Nat) (edge : Option Nat) : State :=
  State.reset.setTimer { resetTimer with
    mode := .follow, refState := .seeking, goodCount := good, prevEdge := edge, lastBoundary := 5500, now := 5500 }

theorem witness_InternalTimerMakesTheBoundary :
    let s := State.reset.setTimer { resetTimer with now := 1000 }
    (s.timer.refState ≠ .locked ∧ s.timer.now ≤ s.timer.lastBoundary + s.timer.period ∧ s.timer.pendingTiming = none ∧
      s.due = []) ∧ (locked 0 5000).timer.refState = .locked := by decide

theorem witness_EpochBoundaryAppliesPendingTiming :
    let s := fun r => State.reset.setTimer { resetTimer with frame := 15, now := 1000, pendingTiming := some r }
    let premises := fun (s : State) (r : TimingRecord) => s.timer.law ∧ s.timer.refState ≠ .locked ∧ s.due = [] ∧
      (s.timer.frame + 1).toNat % 16 = 0 ∧ s.timer.pendingTiming = some r ∧
      s.timer.now ≤ s.timer.lastBoundary + s.timer.period
    let same : TimingRecord := { period := 1000, mode := .free }
    let other : TimingRecord := { period := 20000, mode := .follow }
    (premises (s same) same ∧ (same.period = (s same).timer.period ∧ same.mode = (s same).timer.mode)) ∧
    (premises (s other) other ∧ ¬ (other.period = (s other).timer.period ∧ other.mode = (s other).timer.mode)) := by
  simp [Timer.law, State.setTimer, resetTimer, State.reset]

/-- A boundary leaves the arrival of its TIMING due, whichever row makes it. -/
theorem witness_the_arrival_of_timing :
    let ready := State.reset.setTimer { resetTimer with
      mode := .follow, refState := .seeking, goodCount := 3, prevEdge := some 3432, lastBoundary := 4000, now := 4000 }
    (State.reset.due = [] ∧ Work.timing ∈ (after (.internalTimerRunsOut []) State.reset).due) ∧
    ((locked 2 5100).due = [] ∧ Work.timing ∈ (after (.substituteDeadline []) (locked 2 5100)).due) ∧
    (ready.due = [] ∧ Work.timing ∈ (after (.frefEdge 431 [.lease .s1]) ready).due) ∧
    (after (.substituteDeadline []) (locked 2 5100)).pending = [] := by decide +kernel

theorem witness_SubstituteDeadlineMakesTheBoundary :
    let premises := fun (s : State) => s.timer.refState = .locked ∧ s.due = [] ∧
      s.timer.now ≤ s.timer.anchor + (s.timer.period + s.timer.period / 64)
    let record := (locked 2 6015).setTimer
      { lockedTimer 2 6015 with frame := 15, pendingTiming := some { period := 100, mode := .follow } }
    (premises (locked 1 6015) ∧ (locked 1 6015).timer.faultCount < 2) ∧
    (premises (locked 2 6015) ∧ 2 ≤ (locked 2 6015).timer.faultCount) ∧
    (premises record ∧ 2 ≤ record.timer.faultCount ∧ (record.timer.frame + 1).toNat % 16 = 0) ∧
    State.reset.timer.refState ≠ .locked := by
  decide

/-- With the previous edge at the anchor the interval is P + P/64; with two faults and the previous edge 30 us later it is
P - P/64. -/
theorem witness_SubstituteDeadline_either_order :
    let premises := fun (s : State) (e : Nat) =>
      let d := s.timer.anchor + (s.timer.period + s.timer.period / 64)
      s.timer.law ∧ s.due = [] ∧ s.timer.refState = .locked ∧ s.timer.mode = .follow ∧ s.timer.prevEdge = some e ∧
      s.timer.pendingTiming = none ∧ s.timer.period - s.timer.period / 64 ≤ d - e ∧
      d - e ≤ s.timer.period + s.timer.period / 64 ∧ s.timer.now ≤ d ∧ s.timer.lastBoundary ≤ s.timer.anchor
    let late := State.reset.setTimer { lockedTimer 2 5100 with prevEdge := some 5030 }
    (premises (locked 1 6015) 5000 ∧ (locked 1 6015).timer.faultCount < 2) ∧
    (premises late 5030 ∧ 2 ≤ late.timer.faultCount) := by
  simp [Timer.law, State.setTimer, resetTimer, State.reset, locked, lockedTimer]

/-- The window of P = 1,000 is 985 to 1,015 (section 1.3). -/
theorem witness_EdgesOutsideLock :
    let good := fun (s : State) (v : Nat) =>
      s.timer.period - s.timer.period / 64 ≤ v ∧ v ≤ s.timer.period + s.timer.period / 64
    let s := seeking 2 (some 5000)
    (State.reset.due = [] ∧ State.reset.lane.phase = .transferStep ∧
      State.reset.timer.now + 1000 ≤ State.reset.timer.deadline ∧ State.reset.timer.mode = .free) ∧
    (let u := seeking 0 none
     u.due = [] ∧ u.lane.phase = .transferStep ∧ u.timer.now + 1000 ≤ u.timer.deadline ∧ u.timer.mode = .follow ∧ u.timer.prevEdge = none) ∧
    (s.due = [] ∧ s.lane.phase = .transferStep ∧ s.timer.now + 485 ≤ s.timer.deadline ∧ s.timer.mode = .follow ∧ s.timer.prevEdge = some 5000 ∧
      s.timer.refState = .seeking ∧ s.timer.goodCount < 3 ∧
      good s (min 65535 (s.timer.now + 485 - 5000)) ∧ good s (min 65535 (s.timer.now + 515 - 5000)) ∧
      ¬ good s (min 65535 (s.timer.now + 484 - 5000)) ∧ ¬ good s (min 65535 (s.timer.now + 516 - 5000))) := by decide

theorem witness_TheLockEdge :
    let s := fun b => State.reset.setTimer { resetTimer with
      mode := .follow, refState := .seeking, goodCount := 3, prevEdge := some 5000, lastBoundary := b, now := b }
    let premises := fun (s : State) (d : Nat) => s.due = [] ∧ s.lane.phase = .transferStep ∧
      s.timer.now + d ≤ s.timer.deadline ∧ s.timer.mode = .follow ∧ s.timer.refState = .seeking ∧ s.timer.prevEdge = some 5000 ∧ 3 ≤ s.timer.goodCount ∧
      s.timer.period - s.timer.period / 64 ≤ min 65535 (s.timer.now + d - 5000) ∧
      min 65535 (s.timer.now + d - 5000) ≤ s.timer.period + s.timer.period / 64
    (premises (s 5750) 250 ∧ (s 5750).timer.lastBoundary + (s 5750).timer.period / 4 ≤ 6000) ∧
    (premises (s 5751) 249 ∧ 6000 < (s 5751).timer.lastBoundary + (s 5751).timer.period / 4) := by decide

theorem witness_EdgesInLock :
    let at' := fun faults b now => State.reset.setTimer { lockedTimer faults now with lastBoundary := b }
    let premises := fun (s : State) (d : Nat) => s.due = [] ∧ s.lane.phase = .transferStep ∧
      s.timer.now + d ≤ s.timer.deadline ∧ s.timer.mode = .follow ∧ s.timer.refState = .locked ∧
      s.timer.prevEdge = some 5000
    let good := fun (s : State) (v : Nat) =>
      s.timer.period - s.timer.period / 64 ≤ v ∧ v ≤ s.timer.period + s.timer.period / 64
    (let s := at' 2 5750 5750
     premises s 250 ∧ good s (s.timer.now + 250 - 5000) ∧ s.timer.lastBoundary + s.timer.period / 4 ≤ 6000) ∧
    (let s := at' 2 5751 5751
     premises s 249 ∧ good s (s.timer.now + 249 - 5000) ∧ 6000 < s.timer.lastBoundary + s.timer.period / 4) ∧
    (let s := at' 1 5500 5500
     premises s 484 ∧ ¬ good s (s.timer.now + 484 - 5000) ∧ s.timer.faultCount < 2) ∧
    (let s := at' 2 4985 5500
     premises s 484 ∧ ¬ good s (s.timer.now + 484 - 5000) ∧ 2 ≤ s.timer.faultCount ∧
      s.timer.now + 484 < s.timer.lastBoundary + s.timer.period) ∧
    (let s := at' 2 4984 5500
     premises s 484 ∧ ¬ good s (s.timer.now + 484 - 5000) ∧ 2 ≤ s.timer.faultCount ∧
      s.timer.lastBoundary + s.timer.period ≤ s.timer.now + 484) := by decide

theorem witness_EdgeBeyondTheDeadline :
    let s := locked 1 5000
    s.timer.law ∧ s.due = [] ∧ s.timer.now ≤ s.timer.deadline ∧ s.timer.deadline < s.timer.now + 1016 := by
  refine ⟨?_, by decide, by decide, by decide⟩
  simp [Timer.law, State.setTimer, resetTimer, State.reset, locked, lockedTimer]

theorem witness_SetTimingAndReadFrame :
    (lead.selected .s1 ∧ lead.joined .s1 = true ∧ lead.registry.coordinator = some .s1) ∧
    (word16 0x00 0x64).toNat = 100 ∧ (word16 0x4E 0x20).toNat = 20000 ∧ (word16 0x00 0x63).toNat = 99 ∧
    (two.selected .s1 ∧ two.present .s1 = true) ∧ (parting.selected .s1 ∧ parting.present .s1 = true) := by decide

/-! ## Witnesses: registry -/

theorem witness_RequesterCheckTable :
    let lapsed := two.setStation .s1 (recordIn .lapsed 0 0)
    (two.selected .s1 ∧ (two.station .s1).state = .joined ∧ Request.join.lengthOk 4 = true) ∧
    (parting.selected .s1 ∧ (parting.station .s1).state = .leaving ∧ Request.setMask.lengthOk 2 = true ∧
      Request.setMask ∉ [Request.readStatus, .readFrame, .readIdentity, .detach, .publish, .readSlot, .drainRing,
        .takeMessage, .peekMessage, .ack, .queueStatus, .takeEvent]) ∧
    (lapsed.selected .s1 ∧ (lapsed.station .s1).state = .lapsed ∧ Request.post.lengthOk 66 = true ∧
      Request.post ∉ [Request.join, .readStatus, .readIdentity]) ∧
    (alone.selected .s1 ∧ (alone.station .s1).state = .absent ∧ Request.publish.lengthOk 24 = true ∧
      Request.publish ∉ [Request.join, .readStatus, .readIdentity]) := by decide

theorem witness_CoordinatorRequestRefusals :
    (two.selected .s1 ∧ Request.setTiming.lengthOk 3 = true ∧ two.joined .s1 = true ∧
      two.registry.coordinator ≠ some .s1) ∧
    (lead.selected .s1 ∧ lead.joined .s1 = true ∧ lead.registry.coordinator = some .s1 ∧
      (0 : Byte) ≠ stationByte .s1 ∧ 5 ≤ (5 : Byte).toNat ∧ (1 : Byte) = stationByte .s1 ∧ (4 : Byte) = stationByte .s4 ∧
      lead.present .s4 = false) := by decide

theorem witness_JoinMakesAMember :
    let one := alone.setStation .s2 (recordIn .joined 7 64)
    (alone.selected .s1 ∧ alone.present .s1 = false ∧
      ¬ ∃ n, n ≠ .s1 ∧ alone.present n = true ∧ (alone.station n).name = operand32 [0, 0, 0, 7] 0) ∧
    (one.selected .s1 ∧ one.present .s1 = false ∧
      ∃ n, n ≠ .s1 ∧ one.present n = true ∧ (one.station n).name = operand32 [0, 0, 0, 7] 0) := by
  refine ⟨⟨by decide, by decide, ?_⟩, by decide, by decide, .s2, by decide, by decide, by decide⟩
  rintro ⟨n, h⟩
  cases n <;> revert h <;> decide


theorem witness_LeaseCountdownAtABoundary :
    let s := fun k => two.setStation .s1 (recordIn .joined 1 k)
    let premises := fun (s : State) => s.timer.refState ≠ .locked ∧ s.due = [] ∧ s.lane.phase = .transferStep ∧
      s.timer.now ≤ s.timer.lastBoundary + s.timer.period ∧ s.timer.pendingTiming = none
    (premises (s 2) ∧ (s 2).joined .s1 = true ∧ ((s 2).station .s1).leaseCounter = 2) ∧
    (premises (s 9) ∧ (s 9).joined .s1 = true ∧ ((s 9).station .s1).leaseCounter = 9) ∧
    (premises parting ∧ parting.joined .s1 = false) := by decide

/-- The membership law at a state with an empty map, from what can be decided station by station. -/
theorem membershipLaw_of (s : State) (hm : s.slotMap = List.replicate 48 emptyEntry)
    (h : ∀ n, (s.present n = false →
        ((s.station n).name = 0 ∧ (s.station n).leaseCounter = 0 ∧ (s.station n).token = 0 ∧
          (s.station n).seqCounter = 0) ∧
        (s.rings.get n = emptyRing ∧ s.lane.rx.get n = [] ∧ s.lane.inFlightAt n = false ∧
          s.events.get n = emptyEvents ∧ s.timings.get n = [])) ∧ (s.joined n = false → s.onlyJoinedHolds n))
    (hq : ∀ n c, ∀ m ∈ s.lane.queue n c, m.source = n) : s.membershipLaw := by
  refine ⟨fun n => ⟨fun hp => ?_, (h n).2⟩, hq⟩
  obtain ⟨⟨h1, h2, h3, h4⟩, h5, h6, h7, h8, h9⟩ := (h n).1 hp
  refine ⟨h1, h2, h3, h4, fun e he => ?_, h5, h6, h7, h8, h9⟩
  rw [hm, List.mem_replicate] at he
  rw [he.2]
  exact ⟨trivial, fun c hc => by cases hc⟩

theorem two_membershipLaw : two.membershipLaw :=
  membershipLaw_of two rfl (fun n => by cases n <;> decide +kernel) (fun n c => by cases n <;> cases c <;> decide)

theorem parting_membershipLaw : parting.membershipLaw :=
  membershipLaw_of parting rfl (fun n => by cases n <;> decide +kernel) (fun n c => by cases n <;> cases c <;> decide)

theorem lead_membershipLaw : lead.membershipLaw :=
  membershipLaw_of lead rfl (fun n => by cases n <;> decide +kernel) (fun n c => by cases n <;> cases c <;> decide)

/-- Station 1's lease about to run out at a boundary whose countdown is due. -/
def expiring : State := (two.setStation .s1 (recordIn .joined 1 1)).setDue [.lease .s1]

theorem witness_AbruptDepartureIsOneEvent :
    (two.selected .s1 ∧ two.present .s1 = true ∧ two.timingFirst.membershipLaw) ∧
    (lead.selected .s1 ∧ lead.joined .s1 = true ∧ lead.registry.coordinator = some .s1 ∧ Station.s2 ≠ .s1 ∧
      lead.present .s2 = true ∧ lead.timingFirst.membershipLaw) ∧
    (Work.lease .s1 ∈ expiring.due ∧ expiring.joined .s1 = true ∧ (expiring.station .s1).leaseCounter = 1 ∧
      expiring.closeLane.membershipLaw) := by
  refine ⟨⟨by decide, by decide, two_membershipLaw⟩, ⟨by decide, by decide, by decide, by decide, by decide,
    lead_membershipLaw⟩, by decide, by decide, by decide, ?_⟩
  exact membershipLaw_of expiring rfl (fun n => by cases n <;> decide +kernel)
    (fun n c => by cases n <;> cases c <;> decide)

theorem witness_RenewRestoresTheLease :
    let counting := fun k => (two.setStation .s1 (recordIn .joined 1 k)).setDue [.lease .s1]
    (two.selected .s1 ∧ two.joined .s1 = true ∧ Work.lease .s1 ∉ two.due ∧ (5 : Byte) = (two.station .s1).token ∧
      (6 : Byte) ≠ (two.station .s1).token) ∧
    ((counting 2).selected .s1 ∧ (counting 2).joined .s1 = true ∧ Work.lease .s1 ∈ (counting 2).due) ∧
    ((counting 9).joined .s1 = true ∧ ((counting 9).station .s1).leaseCounter = 9) ∧
    (expiring.selected .s1 ∧ expiring.joined .s1 = true ∧ Work.lease .s1 ∈ expiring.due ∧
      (expiring.station .s1).leaseCounter = 1 ∧ expiring.closeLane.membershipLaw) :=
  ⟨by decide, by decide, by decide, by decide, by decide, by decide, by decide,
    witness_AbruptDepartureIsOneEvent.2.2.2.2.2⟩

/-- Between boundaries, at an epoch boundary with every work due, and there with the countdown of station 2 taken. -/
theorem witness_LeaveBeginsLeaving :
    let at16 := fun (w : List Work) => two.setDue w
    let early : List Work := [.lease .s1, .lease .s2, .lease .s3, .lease .s4, .commit, .leaving .s1, .leaving .s2,
      .leaving .s3, .leaving .s4]
    let all := boundaryWorks true
    let late := all.erase (.lease .s2)
    (two.selected .s1 ∧ two.joined .s1 = true ∧ two.timingFirst.membershipLaw) ∧
    (((at16 all).selected .s1 ∧ (at16 all).joined .s1 = true ∧ Work.timing ∈ (at16 all).due ∧
      ∀ w ∈ early, w ∈ (at16 all).timingFirst.due) ∧ (at16 all).timingFirst.membershipLaw) ∧
    (((at16 late).selected .s1 ∧ (at16 late).joined .s1 = true ∧ (¬ ∀ w ∈ early, w ∈ (at16 late).timingFirst.due) ∧
      Work.leaving .s1 ∈ (at16 late).due) ∧ (at16 late).timingFirst.membershipLaw) := by
  have h : ∀ w : List Work, (two.setDue w).membershipLaw := fun _ => two_membershipLaw
  exact ⟨⟨by decide, by decide, two_membershipLaw⟩, ⟨by decide, h _⟩, by decide, h _⟩

/-- Station 1 LEAVING at an epoch boundary, with and without its message still in flight. -/
def examined (t : Option Transfer) : State := (parting.setDue [.leaving .s1]).setLane { resetLane with transfer := t }

def flight : Transfer := { msg := note .normal (some .s2) 1 0, dests := [.s2], remaining := 5 }

theorem witness_EndOfLeavingTakesTheStationOut :
    (Work.leaving .s1 ∈ (examined none).due ∧ ((examined none).station .s1).state = .leaving ∧
      (examined none).closeLane.membershipLaw ∧ (examined none).closeLane.lane.inFlightAt .s1 = false) ∧
    (Work.leaving .s1 ∈ (examined (some flight)).due ∧ ((examined (some flight)).station .s1).state = .leaving ∧
      (examined (some flight)).closeLane.membershipLaw ∧
      (examined (some flight)).closeLane.lane.inFlightAt .s1 = true) := by
  refine ⟨⟨by decide, by decide, ?_, by decide⟩, by decide, by decide, ?_, by decide⟩ <;>
  exact membershipLaw_of (examined _) rfl (fun n => by cases n <;> decide +kernel)
    (fun n c => by cases n <;> cases c <;> decide)

theorem witness_CoordinatorRoleClaimedAndResigned :
    let other := two.setCoordinator (some .s2)
    (two.selected .s1 ∧ two.joined .s1 = true ∧ two.registry.coordinator = none) ∧
    (other.selected .s1 ∧ other.joined .s1 = true ∧ other.registry.coordinator = some .s2 ∧
      other.registry.coordinator ≠ some .s1) ∧
    (lead.selected .s1 ∧ lead.joined .s1 = true ∧ lead.registry.coordinator = some .s1) := by decide

theorem witness_SetLeaseAndSetLane :
    (lead.selected .s1 ∧ lead.joined .s1 = true ∧ lead.registry.coordinator = some .s1) ∧
    8 ≤ (8 : Byte).toNat ∧ (7 : Byte).toNat < 8 ∧
    (8 ≤ (64 : Byte).toNat ∧ (64 : Byte).toNat ≤ 64 ∧ 1 ≤ (1 : Byte).toNat) ∧
    ¬ (8 ≤ (65 : Byte).toNat ∧ (65 : Byte).toNat ≤ 64 ∧ 1 ≤ (255 : Byte).toNat) := by decide

theorem witness_ReadStatusReportsOneMoment : alone.selected .s1 ∧ two.selected .s1 ∧ parting.selected .s1 := by decide

/-! ## Witnesses: slot allocator -/

/-- A live producer. -/
def by' (n : Station) : Option Producer := some { station := n, releaseDue := false, orphaned := false }

/-- A live consumer record. -/
def consumer (n : Station) (mode : LogMode) : Consumer :=
  { station := n, mode := mode, releaseDue := false, orphaned := false }

/-- Slots 0 to 14 are station 1's, slot 15 station 2's, slot 16 has station 1 as consumer, slot 17 three consumers. -/
def mapped : State := lead.setSlotMap
  (List.replicate 15 { producer := by' .s1, consumers := [] } ++
   [{ producer := by' .s2, consumers := [] }, { producer := none, consumers := [consumer .s1 .every] },
    { producer := none, consumers := [consumer .s2 .none, consumer .s3 .none, consumer .s4 .fresh] }] ++
   List.replicate 30 emptyEntry)

/-- As `mapped`, with slot 18 station 1's sixteenth. -/
def sixteen : State :=
  mapped.setSlotMap (mapped.slotMap.set 18 { producer := by' .s1, consumers := [] })

/-- Every slot is station 2's. -/
def taken : State := lead.setSlotMap (List.replicate 48 { producer := by' .s2, consumers := [] })

theorem witness_ClaimSlotStagesOrRefuses :
    let free := fun (s : State) k => (mapEntry s.closeLane.projected k).producer = none ∧
      (mapEntry s.closeLane.projected k).consumedBy .s1 = false
    let premises := fun (s : State) => s.selected .s1 ∧ s.joined .s1 = true ∧ s.closeLane.changes.length < 24 ∧
      quotaCount s.closeLane.changes .s1 < 8
    (premises mapped ∧ free mapped 47 ∧ producerCount mapped.closeLane.projected .s1 = 15) ∧
    (premises sixteen ∧ free sixteen 47 ∧ producerCount sixteen.closeLane.projected .s1 = 16) ∧
    ((mapEntry mapped.closeLane.projected 16).producer = none ∧
      (mapEntry mapped.closeLane.projected 16).consumedBy .s1 = true) ∧
    (mapEntry mapped.closeLane.projected 0).producedBy .s1 = true ∧
    ((mapEntry mapped.closeLane.projected 15).producer ≠ none ∧
      (mapEntry mapped.closeLane.projected 15).producedBy .s1 = false) ∧
    (free mapped 17 ∧ ∀ j < 17, ¬ free mapped j) ∧ (premises taken ∧ ∀ k < 48, ¬ free taken k) := by decide +kernel

theorem witness_OtherStagingRequests :
    let e := fun k => mapEntry mapped.closeLane.projected k
    (mapped.selected .s1 ∧ mapped.joined .s1 = true ∧ mapped.closeLane.changes.length < 24 ∧
      quotaCount mapped.closeLane.changes .s1 < 8 ∧ mapped.registry.coordinator = some .s1 ∧ (47 : Byte).toNat = 47) ∧
    ((e 0).producedBy .s1 = true ∧ (e 47).producedBy .s1 = false) ∧
    ((e 16).consumedBy .s1 = true ∧ (e 47).consumedBy .s1 = false) ∧
    ((e 16).consumers.any (fun c => c.station == .s1 && c.mode == .every) = true ∧
      (e 16).consumers.any (fun c => c.station == .s1 && c.mode == .fresh) = false) ∧
    ((e 17).producedBy .s1 = false ∧ (e 17).consumedBy .s1 = false ∧ 3 ≤ (e 17).consumers.length) ∧
    (e 47).consumers.length < 3 ∧ ((e 15).producer ≠ none ∧ (e 47).producer = none) := by decide +kernel

/-- A change list of n entries of one origin. -/
def listOf (origin : Option Station) (kind : ChangeKind) (n : Nat) : List Change :=
  (List.range n).map (fun i => { id := i, origin := origin, kind := kind, slot := 0, stamp := 0 })

theorem witness_StagingChecksInOrder :
    let full := lead.setChanges (listOf none .forceRelease 24)
    let used := lead.setChanges (listOf (some .s1) .release 8)
    (lead.selected .s1 ∧ lead.joined .s1 = true ∧ lead.registry.coordinator = some .s1) ∧
    ¬ (((48 : Byte).toNat < 48 ∨ (48 : Byte) = 0xFF)) ∧ ¬ (3 : Byte).toNat ≤ 2 ∧
    (full.selected .s1 ∧ full.joined .s1 = true ∧ full.registry.coordinator = some .s1 ∧
      24 ≤ full.closeLane.changes.length ∧ (47 : Byte).toNat < 48) ∧
    (used.selected .s1 ∧ used.joined .s1 = true ∧ used.closeLane.changes.length < 24 ∧
      8 ≤ quotaCount used.closeLane.changes .s1) := by decide +kernel

/-- One entry staged by the request. -/
def staged : Change := { id := 0, origin := some .s1, kind := .claim, slot := 47, stamp := 0 }

theorem witness_AcceptedEntriesWouldApply :
    (two.selected .s1 ∧ two.joined .s1 = true ∧ Request.claimSlot.lengthOk 1 = true) ∧
    (∃ t, exec (.claimSlot .s1 (requestFrame 0x10 [47])) two = .next t) ∧
    (after (.claimSlot .s1 (requestFrame 0x10 [47])) two).changes = two.closeLane.changes ++ [staged] :=
  ⟨by decide, exec_after _ _, by decide +kernel⟩

/-- A commit due: slot 0 loses its producer before a consumer that stays, slot 1 gets one from station 2, slot 2 a consumer,
slot 3 is forced from station 2. -/
def committing : State := (((lead.setSlotMap
  ([{ producer := some { station := .s1, releaseDue := true, orphaned := false }, consumers := [consumer .s2 .every] },
    emptyEntry, emptyEntry, { producer := by' .s2, consumers := [] }] ++ List.replicate 44 emptyEntry)).setChanges
  [{ id := 0, origin := some .s2, kind := .claim, slot := 1, stamp := 0 },
   { id := 1, origin := some .s1, kind := .subscribe .every, slot := 2, stamp := 0 },
   { id := 2, origin := none, kind := .forceRelease, slot := 3, stamp := 0 }]).setDue [.commit])

theorem witness_CommitGivesTheProjectedMap :
    let s := committing
    let before := fun i => projectFrom (s.slotMap.map SlotEntry.removeDue) (s.changes.take i)
    (s.pending = [] ∧ s.due = [.commit] ∧ s.lane.phase = .transferStep ∧ s.slots.length = 48 ∧ s.slotMap.length = 48) ∧
    (s.entry 0).producerDue = true ∧
    (s.changes.zipIdx.map (fun x => x.1.check (before x.2)) = [.ok, .ok, .ok]) ∧
    ((s.entry 47).producerDue = false ∧ ∀ c ∈ s.changes, c.slot ≠ 47) ∧
    ((s.entry 2).producerDue = false ∧ ∀ c ∈ s.changes, c.slot = 2 → c.kind = .subscribe .every) ∧
    s.registry.coordinator = some .s1 ∧ s.present .s2 = true := by decide +kernel

/-- R49, R69, R72, R75 at that commit: what station 2 and the coordinator find in their queues. -/
theorem test_records_of_a_commit :
    let t := committing.takeWork .commit
    (t.events.get .s2).records.map (fun r => r.event) =
      [.slotVacated 0, .changeDone 0 .claim 1 .ok, .slotLost 3] ∧
    (t.events.get .s1).records.map (fun r => r.event) =
      [.changeDone 1 .subscribe 2 .ok, .changeDone 2 .forceRelease 3 .ok] := by decide +kernel

theorem witness_WithdrawRemovesOneEntry :
    let s := lead.setChanges
      [{ id := 0, origin := some .s1, kind := .claim, slot := 1, stamp := 0 },
       { id := 22, origin := some .s2, kind := .claim, slot := 2, stamp := 0 },
       { id := 23, origin := none, kind := .forceRelease, slot := 47, stamp := 0 }]
    let t := s.setCoordinator (some .s2)
    (s.selected .s1 ∧ s.joined .s1 = true ∧ s.closeLane.changesLaw ∧ s.registry.coordinator = some .s1) ∧
    (t.selected .s1 ∧ t.joined .s1 = true ∧ t.closeLane.changesLaw ∧ t.registry.coordinator ≠ some .s1) ∧
    (s.closeLane.changes.map (fun c => (c.id, c.origin)) = [(0, some .s1), (22, some .s2), (23, none)]) ∧
    (∀ c ∈ s.closeLane.changes, c.id ≠ (255 : Byte).toNat) := by
  refine ⟨⟨by decide, by decide, ⟨by decide, by decide, fun n => ?_, by decide⟩, by decide⟩,
    ⟨by decide, by decide, ⟨by decide, by decide, fun n => ?_, by decide⟩, by decide⟩, by decide, by decide⟩ <;>
  cases n <;> decide

theorem witness_ListChangesAndReadMapReport :
    (two.selected .s1 ∧ two.joined .s1 = true) ∧ (47 : Byte).toNat < 48 ∧ 48 ≤ (48 : Byte).toNat := by decide

/-! ## Witnesses: slot exchange -/

theorem witness_PublishWritesAllOrNothing :
    let u := mapped.closeLane
    let good : List (Byte × Byte × Byte) := [(0, 1, 2), (14, 3, 4), (0, 5, 6)]
    (mapped.selected .s1 ∧ mapped.present .s1 = true ∧ 1 ≤ good.length ∧ good.length ≤ 8 ∧ mapped.slots.length = 48) ∧
    ((u.entry 0).liveProducer .s1 = true ∧ (u.entry 14).liveProducer .s1 = true) ∧
    ((u.entry 15).liveProducer .s1 = false ∧ (15 : Byte).toNat < 48) ∧ ¬ (48 : Byte).toNat < 48 := by decide +kernel

theorem witness_ReadSlotAnswersRoleHoldersOnly :
    (mapped.selected .s1 ∧ mapped.present .s1 = true) ∧ (mapped.closeLane.entry 0).liveProducer .s1 = true ∧
    (mapped.closeLane.entry 16).liveConsumer .s1 = true ∧
    ((47 : Byte).toNat < 48 ∧ ¬ ((mapped.closeLane.entry 47).liveProducer .s1 = true ∨
      (mapped.closeLane.entry 47).liveConsumer .s1 = true)) ∧ 48 ≤ (48 : Byte).toNat := by decide +kernel

/-- A latch due: slots 0 and 1 live with a logging consumer whose ring has one place, slot 0 written, slot 2 orphaned, the rest
without producer. -/
def latching : State := ((((two.setSlotMap
  ([{ producer := by' .s1, consumers := [consumer .s2 .every] },
    { producer := by' .s1, consumers := [consumer .s2 .every] }, { producer := some { station := .s3, releaseDue := true, orphaned := true }, consumers := [] }] ++
    List.replicate 45 emptyEntry)).setSlots
  ({ resetSlot with buffer := 7, written := true } :: List.replicate 47 { resetSlot with age := 255 }))).setRing .s2
  { emptyRing with
    entries := List.replicate 63 { slot := 0, stamp := 0, value := none, fresh := false, gap := 0 }, gap := 255 }).setDue
  [.latch]

theorem latching_mapLaw : latching.mapLaw := by
  refine ⟨by decide, ?_, fun n => ?_⟩
  · intro e he
    rcases (show e = { producer := by' .s1, consumers := [consumer .s2 .every] } ∨
        e = { producer := some { station := .s3, releaseDue := true, orphaned := true }, consumers := [] } ∨
        e = emptyEntry by
      simp only [latching, State.setDue_slotMap, State.setRing_slotMap, State.setSlots_slotMap,
        State.setSlotMap_slotMap] at he
      simpa [List.mem_replicate] using he) with h | h | h <;> subst h <;>
    exact ⟨by decide, by decide, by decide, by decide, by first | trivial | simp [by']⟩
  · cases n <;> decide +kernel

theorem witness_LatchFollowsTheProducerAndLogsInSlotOrder :
    let s := latching
    (s.pending = [] ∧ s.due = [.latch] ∧ s.lane.phase = .transferStep ∧ s.slots.length = 48) ∧
    (((s.entry 0).producer = by' .s1 ∧ (s.slot 0).written = true) ∧
      ((s.entry 1).producer = by' .s1 ∧ (s.slot 1).written = false ∧ (s.slot 1).age = 255) ∧
      ((s.entry 2).producer.map (fun q => q.orphaned) = some true) ∧ (s.entry 47).producer = none) ∧
    (s.mapLaw ∧ s.exchangeLaw) ∧ s.present .s2 = true ∧ (s.rings.get .s2).entries.length = 63 ∧
    (s.latchEntries (s.takeWork .latch) .s2).map (fun e => (e.slot, e.value, e.fresh)) =
      [(0, some 7, true), (1, none, false)] :=
  ⟨by decide +kernel, by decide +kernel, ⟨latching_mapLaw, by decide +kernel, by decide +kernel,
    fun n => by cases n <;> decide +kernel⟩, by decide, by decide +kernel, by decide +kernel⟩

theorem witness_RingAppendOrDrop :
    let ring := fun n gap w => two.setRing .s1
      { entries := List.replicate n { slot := 0, stamp := 0, value := none, fresh := false, gap := 0 }, gap := gap,
        watermark := w }
    let holds := fun (s : State) (n gap w : Nat) => s.present .s1 = true ∧ (s.rings.get .s1).entries.length = n ∧
      (s.rings.get .s1).gap = gap ∧ (s.rings.get .s1).watermark = w
    holds (ring 63 0 48) 63 0 48 ∧ holds (ring 62 0 63) 62 0 63 ∧ holds (ring 64 0 48) 64 0 48 ∧
    holds (ring 64 1 48) 64 1 48 ∧ holds (ring 64 255 48) 64 255 48 := by decide +kernel

theorem witness_DrainRingAndSetWatermark :
    let filled := two.setRing .s1
      { emptyRing with entries := [{ slot := 0, stamp := 0, value := none, fresh := false, gap := 0 }] }
    (filled.selected .s1 ∧ filled.present .s1 = true ∧ (filled.closeLane.rings.get .s1).entries ≠ []) ∧
    (two.selected .s1 ∧ two.present .s1 = true ∧ (two.closeLane.rings.get .s1).entries = [] ∧ two.joined .s1 = true) ∧
    (1 ≤ (8 : Byte).toNat ∧ (8 : Byte).toNat ≤ 8 ∧ 8 < (9 : Byte).toNat ∧ (0 : Byte).toNat = 0) ∧
    (1 ≤ (63 : Byte).toNat ∧ (63 : Byte).toNat ≤ 63 ∧ 63 < (64 : Byte).toNat) := by decide +kernel

/-! ## Witnesses: message lane and acknowledgement table -/

/-- An acknowledgement entry of a message to station 2. -/
def waiting (seq : Byte) (state : AckState) : AckEntry := { seq := seq, tag := 9, dest := .s2, timeout := 40, state := state }

theorem witness_PostQueuesTheMessage :
    let three := (two.setAckList .s1 [waiting 0 .queued, waiting 1 .queued, waiting 2 .inFlight])
    let s := three.setLane { resetLane with
      tx := resetLane.tx.set .s1 { urgent := List.replicate 3 (note .urgent (some .s2) 1 0), normal := [] } }
    (s.selected .s1 ∧ s.joined .s1 = true ∧ (s.closeLane.acks.get .s1).length < 4 ∧ s.joined .s2 = true ∧
      (s.closeLane.lane.queue .s1 .urgent).length < 4) ∧
    (two.selected .s1 ∧ two.joined .s1 = true ∧ (two.closeLane.acks.get .s1).length ≤ 4 ∧
      (two.closeLane.lane.queue .s1 .normal).length < 8) ∧
    (∃ n, n ≠ .s1 ∧ two.joined n = true) ∧ (List.replicate 60 (0 : Byte)).length ≤ 60 := by
  refine ⟨by decide +kernel, by decide +kernel, ⟨.s2, by decide, by decide⟩, by decide⟩

theorem witness_PostChecksInOrder :
    let full := two.setLane { resetLane with
      tx := resetLane.tx.set .s1 { urgent := List.replicate 4 (note .urgent (some .s2) 1 0),
                                   normal := List.replicate 8 (note .normal (some .s2) 1 0) } }
    let table := two.setAckList .s1 [waiting 0 .queued, waiting 1 .queued, waiting 2 .inFlight, waiting 3 .queued]
    (two.selected .s1 ∧ two.joined .s1 = true ∧ 1 ≤ ([7] : List Byte).length ∧ two.joined .s3 = false) ∧
    ((2 : Byte).toNat ≠ ([7] : List Byte).length ∧ (5 : Byte).toNat > 4 ∧ (2 : Byte).toNat > 1) ∧
    (full.selected .s1 ∧ full.joined .s2 = true ∧ ¬ (full.closeLane.lane.queue .s1 .urgent).length < 4 ∧
      ¬ (full.closeLane.lane.queue .s1 .normal).length < 8) ∧
    (table.selected .s1 ∧ table.joined .s2 = true ∧ 4 ≤ (table.closeLane.acks.get .s1).length ∧
      (1 : Byte).getLsbD 0 = true) := by decide +kernel

/-- Messages of station 1: one URGENT, one NORMAL, one in flight, posted in the order 2, 1, 0. -/
def posted : State := two.setLane { resetLane with
  tx := resetLane.tx.set .s1 { urgent := [note .urgent (some .s2) 3 2], normal := [note .normal (some .s2) 2 1] }
  transfer := some { msg := note .normal (some .s2) 1 0, dests := [.s2], remaining := 5 } }

theorem witness_CancelRemovesTheOldestWithTheTag :
    let u := posted.closeLane
    let mine := u.lane.queue .s1 .urgent ++ u.lane.queue .s1 .normal ++ [note .normal (some .s2) 1 0]
    (posted.selected .s1 ∧ posted.joined .s1 = true ∧
      u.lane.transfer.map (fun t => t.msg) = some (note .normal (some .s2) 1 0)) ∧
    (∀ m ∈ mine, m.source = .s1) ∧ (mine.map (fun m => m.posted)).Nodup ∧
    (∀ m ∈ u.lane.queue .s1 .urgent, m.cls = .urgent) ∧ (∀ m ∈ u.lane.queue .s1 .normal, m.cls = .normal) ∧
    mine.map (fun m => m.tag) = [3, 2, 1] ∧ (∀ m ∈ mine, m.tag ≠ 0) := by decide +kernel

theorem witness_ReceiveQueueRequests :
    let s := two.setLane { resetLane with
      rx := resetLane.rx.set .s1 [{ msg := note .normal none 1 0, delivered := 3 }] }
    (two.selected .s1 ∧ two.present .s1 = true ∧ two.closeLane.lane.rx.get .s1 = []) ∧
    (s.selected .s1 ∧ s.present .s1 = true ∧ (s.closeLane.lane.rx.get .s1).length = 1) := by decide +kernel

/-- Lane work due with a transfer of n bytes in flight, the byte budget at 16. -/
def moving (n : Nat) : State := (two.setLane { resetLane with
  transfer := some { msg := note .normal (some .s2) 1 0, dests := [.s2], remaining := n } }).setDue [.lane]

theorem witness_TransferStepMovesBytesAndDelivers :
    let holds := fun (s : State) (n : Nat) => Work.lane ∈ s.due ∧ s.due = [.lane] ∧ s.pending = [] ∧
      s.lane.phase = .transferStep ∧ s.lane.transfer.map (fun t => t.remaining) = some n ∧ s.lane.pending = none ∧
      s.lane.settings.budget = 16
    holds (moving 16) 16 ∧ holds (moving 17) 17 := by decide

theorem witness_FinishingLaneWorkTouchesLaneAcksAndEventsAlone :
    let half := (locked 0 5000).setLane { resetLane with phase := .arbitration }
    two.lane.phase = .transferStep ∧ half.lane.phase ≠ .transferStep ∧ half.timer.mode = .follow := by decide

/-- Lane work due with the lane free and one message of station 1 waiting. -/
def offering : State := (two.setLane { resetLane with
  tx := resetLane.tx.set .s1 { urgent := [], normal := [note .normal (some .s2) 1 0] }
  deferred := some .s1 }).setDue [.lane]

theorem witness_LaneGrantFollowsTheSearch :
    let s := offering
    let later := s.setLane { s.lane with phase := .arbitration, pending := some { budget := 8, holdLimit := 1 } }
    let set := s.setLane { s.lane with pending := some { budget := 8, holdLimit := 1 } }
    let premises := fun (s : State) => Work.lane ∈ s.due ∧ s.lane.transfer = none ∧
      s.lane.queue .s1 .normal = [note .normal (some .s2) 1 0] ∧ s.headEligible .s1 .normal = true ∧
      s.headEligible .s1 .urgent = false ∧ s.headEligible .s2 .urgent = false ∧ s.headEligible .s3 .urgent = false ∧
      s.headEligible .s4 .urgent = false ∧ s.lane.pointer.next = .s1
    (premises s ∧ s.lane.phase = .transferStep ∧ s.lane.pending = none ∧ s.lane.deferred = some .s1) ∧
    (premises later ∧ later.lane.phase = .arbitration) ∧
    (premises set ∧ set.lane.phase = .transferStep ∧ set.lane.pending = some { budget := 8, holdLimit := 1 }) := by
  decide

/-- The boundary's transfer step completes a transfer with a message of station 1 waiting behind it. -/
def queueing : State := (moving 16).setLane { (moving 16).lane with
  tx := resetLane.tx.set .s1 { urgent := [note .urgent (some .s2) 2 1], normal := [] }, nextPosted := 2 }

theorem witness_LaneGrantAfterTheDelivery :
    let s := queueing
    (Work.lane ∈ s.due ∧ s.lane.phase = .transferStep ∧ s.lane.pending = none ∧
      s.lane.transfer.map (fun x => x.remaining) = some 16 ∧ s.lane.settings.budget = 16) ∧
    (∃ t, exec .transferDelivery s = .next t) ∧ (after .transferDelivery s).headEligible .s1 .urgent = true :=
  ⟨by decide, exec_after _ _, by decide +kernel⟩

/-- A hold count that brings the blocked head of station 1 from 31 to the hold limit of 32. -/
def holding : State := (two.setLane { resetLane with
  tx := resetLane.tx.set .s1 { urgent := [], normal := [{ note .normal (some .s2) 1 0 with hold := 31 }] }
  phase := .holdCount [(.s1, .normal)] }).setDue [.lane]

theorem witness_HoldExpiredReturnsTheHead :
    let s := holding
    (Work.lane ∈ s.due ∧ s.lane.phase = .holdCount [(.s1, .normal)] ∧ [(Station.s1, MsgClass.normal)].Nodup) ∧
    (∀ n c, ∀ m ∈ s.lane.queue n c, m.source = n) ∧
    ((s.lane.queue .s1 .normal).map (fun m => m.hold) = [31] ∧ s.lane.settings.holdLimit ≤ min 255 (31 + 1)) ∧
    (s.pending = [] ∧ s.due = [.lane]) := by
  refine ⟨by decide, fun n c => ?_, by decide⟩
  cases n <;> cases c <;> decide

/-- Station 1's head is blocked by the full receive queue of station 2, the hold count at 30 of 32; station 3's URGENT head is
granted if there is one. -/
def crowded (urgent : List Message) : State := (two.setLane { resetLane with
  tx := (resetLane.tx.set .s1 { urgent := [], normal := [{ note .normal (some .s2) 1 0 with hold := 30 }] }).set .s3
    { urgent := urgent, normal := [] }
  rx := resetLane.rx.set .s2 (List.replicate 8 { msg := note .normal (some .s2) 1 0, delivered := 0 }) }).setDue [.lane]

theorem witness_HoldCountWithTheArbitration :
    let s := crowded []
    (Work.lane ∈ s.due ∧ s.lane.phase = .transferStep ∧ s.lane.transfer = none ∧ s.pending = [] ∧ s.due = [.lane]) ∧
    (∀ n cls, s.headEligible n cls = false) ∧ s.headsBlocked = [(.s1, .normal)] ∧ s.headsBlocked.Nodup ∧
    ((s.lane.queue .s1 .normal).map (fun m => m.hold) = [30]) ∧ (∀ n c, ∀ m ∈ s.lane.queue n c, m.source = n) := by
  refine ⟨by decide, fun n c => ?_, by decide, by decide, by decide, fun n c => ?_⟩ <;>
  cases n <;> cases c <;> decide

theorem witness_HoldExpiredAfterTheGrant :
    let s := (crowded [{ note .urgent (some .s1) 2 1 with source := .s3 }]).setLane
      { (crowded [{ note .urgent (some .s1) 2 1 with source := .s3 }]).lane with settings := { budget := 16, holdLimit := 31 } }
    let t := after .laneGrant s
    (Work.lane ∈ s.due ∧ s.lane.phase = .transferStep) ∧ (∃ t, exec .laneGrant s = .next t) ∧ t ≠ s ∧
    (∃ u, exec .holdExpired t = .next u) ∧ after .holdExpired t ≠ t :=
  ⟨by decide, exec_after _ _, by decide +kernel, exec_after _ _, by decide +kernel⟩

theorem witness_AckResolvesADeliveredEntry :
    let s := two.setAckList .s2 [{ seq := 4, tag := 9, dest := .s1, timeout := 40, state := .delivered 3 1 }]
    (s.selected .s1 ∧ s.present .s1 = true ∧ s.closeLane.acksLaw) ∧
    (Station.s2 ≠ .s1 ∧ s.present .s2 = true ∧
      s.closeLane.acks.get .s2 = [{ seq := 4, tag := 9, dest := .s1, timeout := 40, state := .delivered 3 1 }]) ∧
    (two.selected .s1 ∧ two.present .s1 = true ∧ two.closeLane.acksLaw ∧ two.closeLane.acks.get .s2 = []) ∧
    5 ≤ (5 : Byte).toNat := by
  refine ⟨⟨by decide, by decide, fun n => ?_⟩, by decide, ⟨by decide, by decide, fun n => ?_, by decide⟩, by decide⟩ <;>
  cases n <;> decide

theorem witness_AckTimeoutCountsDown :
    let s := ((two.setTimer { resetTimer with frame := 2 }).setAckList .s1 [waiting 4 (.delivered 1 1)]).setDue [.ack]
    let plain := two.setAckList .s1 [waiting 4 (.delivered 2 0)]
    (Work.ack ∈ s.due ∧ s.lane.phase = .transferStep ∧
      (s.acks.get .s1).map (fun a => a.state) = [.delivered 1 1] ∧ (1 : Stamp) ≠ stampOf s.timer.frame) ∧
    (plain.timer.refState ≠ .locked ∧ plain.due = [] ∧ plain.lane.phase = .transferStep ∧
      plain.timer.now ≤ plain.timer.lastBoundary + plain.timer.period ∧ plain.timer.pendingTiming = none ∧
      (plain.acks.get .s1).map (fun a => a.state) = [.delivered 2 0]) := by decide

/-! ## Witnesses: event queues -/

/-- Station 1's queue with n ordinary records and perhaps a lost-events record. -/
def queued (n : Nat) (lost : Option LostEvents) : State :=
  two.setQueue .s1 { records := List.replicate n { stamp := 0, event := .ringDropping }, lost := lost, mask := 0x0020 }

theorem witness_RecordsAreQueuedCountedOrDiscarded :
    alone.present .s1 = false ∧
    (let s := queued 14 none
     s.present .s1 = true ∧ (s.events.get .s1).lost = none ∧ (s.events.get .s1).records.length = 14) ∧
    (let s := queued 15 none
     s.present .s1 = true ∧ (s.events.get .s1).lost = none ∧ (s.events.get .s1).records.length = 15) ∧
    (let s := queued 3 (some { stamp := 0, count := 255 })
     s.present .s1 = true ∧ (s.events.get .s1).lost = some { stamp := 0, count := 255 }) := by decide +kernel

theorem witness_TakeEventRemovesTheHead :
    let premises := fun (s : State) => s.selected .s1 ∧ s.present .s1 = true
    (premises (queued 1 none) ∧ ((queued 1 none).closeLane.events.get .s1).records.length = 1) ∧
    (let s := queued 0 (some { stamp := 0, count := 255 })
     premises s ∧ (s.closeLane.events.get .s1).records = [] ∧
      (s.closeLane.events.get .s1).lost = some { stamp := 0, count := 255 }) ∧
    (premises two ∧ (two.closeLane.events.get .s1).records = [] ∧ (two.closeLane.events.get .s1).lost = none) := by
  decide +kernel

theorem witness_SetMaskGovernsAttention :
    (two.selected .s1 ∧ two.joined .s1 = true) ∧ (0x7F : Byte).getLsbD 7 = false ∧ (0x80 : Byte).getLsbD 7 = true := by
  decide

/-! ## Witnesses: station ports -/

theorem witness_CheckByteCatchesOneWrongBit :
    alone.selected .s1 ∧ (7 : Nat) < 8 ∧ (List.replicate 254 (0 : Byte)).length + ([] : List Byte).length < 255 ∧
    (0x80 : Byte) = 0x00 ^^^ BitVec.twoPow 8 7 := by decide +kernel

theorem witness_PortChecksInOrder :
    alone.selected .s1 ∧ (List.replicate 255 (0 : Byte)).length ≤ 255 ∧
    (0x00 : Byte) ≠ (requestFrame 0x05 []).check ∧ (0x00 : Byte) ≠ (requestFrame Request.readStatus.code []).check ∧
    (∀ r : Request, r.code ≠ 0x0F) ∧ Request.publish.lengthOk ([1, 2, 3, 4] : List Byte).length = false := by
  refine ⟨by decide, by decide +kernel, by decide +kernel, by decide +kernel, fun r => ?_, by decide⟩
  cases r <;> decide

theorem witness_ReadIdentityAnswersTheFixedValues : alone.selected .s1 := by decide

theorem witness_SelectionStartsAndEnds :
    (State.reset.ports.get .s1).selHigh = true ∧ (alone.ports.get .s1).selHigh = false := by decide

theorem witness_ResponsesAndUnfinishedRequests :
    let f : Frame := { operands := [1, 2], check := 0 }
    let sdi := (bytesBits (frameBytes 0x39 f)).take 39
    let r := respond { status := .ok, results := [0x05] }
    let s := alone.setPort .s1 ((alone.ports.get .s1).answering { status := .ok, results := [0x05] })
    (alone.selected .s1 ∧ f.operands.length ≤ 255 ∧ sdi <+: bytesBits (frameBytes 0x39 f) ∧
      sdi.length + 1 = (bytesBits (frameBytes 0x39 f)).length) ∧
    ((s.ports.get .s1).phase = .response ∧ (s.ports.get .s1).response = some r ∧ r.position = 0 ∧
      (responseBits r).length = 32 ∧ (List.replicate 31 true).length < (responseBits r).length ∧
      (responseBits r).length ≤ (List.replicate 32 true).length) := by decide +kernel

/-! ## Witnesses: the laws -/

theorem witness_laws_of_simple_blocks :
    two.timer.law ∧ two.registryLaw ∧ two.changesLaw ∧ two.exchangeLaw ∧ two.laneLaw ∧ two.acksLaw ∧ two.eventsLaw ∧
    (∃ t, step two = .next t) := by
  refine ⟨by simp [Timer.law, two, alone, State.setStation, State.setRegistry, State.setPort, State.reset, resetTimer],
    ⟨by decide, fun n => by cases n <;> decide, fun n m => by cases n <;> cases m <;> decide⟩,
    ⟨by decide, by decide, fun n => by cases n <;> decide, by decide⟩,
    ⟨by decide, by decide +kernel, fun n => by cases n <;> decide⟩,
    ⟨fun n => by cases n <;> decide, fun n c => by cases n <;> cases c <;> decide,
      fun n c => by cases n <;> cases c <;> decide, fun n => by cases n <;> decide, trivial,
      by decide, trivial, fun n => by cases n <;> decide, by decide⟩,
    fun n => by cases n <;> decide, fun n => ?_, ⟨_, rfl⟩⟩
  cases n <;> exact ⟨⟨by decide, trivial⟩, by decide, by decide⟩

/-- R41: a step without a commit and without an epoch boundary. -/
theorem witness_the_sets_stay :
    let s : State := { latching with pending := [.frefEdge 100 []] }
    (∃ t, step s = .next t) ∧ Work.commit ∉ s.due ∧ s.pending.head? = some (.frefEdge 100 []) ∧ 100 + 1 < 2 ^ 32 ∧
    (after (.frefEdge 100 []) { s with pending := [] }).timer.frame = s.timer.frame :=
  ⟨exec_after (.frefEdge 100 []) { latching with pending := [] }, by decide, rfl, by decide, by decide +kernel⟩

theorem witness_laws_of_map_and_membership :
    latching.mapLaw ∧ (∃ t, step latching = .next t) ∧ two.membershipLaw ∧ parting.membershipLaw ∧
    (∃ t, step parting = .next t) :=
  ⟨latching_mapLaw, ⟨_, rfl⟩, two_membershipLaw, parting_membershipLaw, ⟨_, rfl⟩⟩

end Sys2Proof.Tests
end

section
/-! SUPPORT. The law of the active map under the marks of a departure, the removals of a commit and each change of the change
list; then what a step does to the map, boundary by boundary, which settles O54. -/

namespace Sys2Proof.Machine

/-! ## Entries of the active map -/

theorem SlotEntry.producedBy_iff (e : SlotEntry) (n : Station) :
    e.producedBy n = true ↔ e.producer.map (fun p => p.station) = some n := by
  cases h : e.producer <;> simp [SlotEntry.producedBy, h]

theorem SlotEntry.consumedBy_eq_false_iff (e : SlotEntry) (n : Station) :
    e.consumedBy n = false ↔ ∀ c ∈ e.consumers, c.station ≠ n := by
  simp [SlotEntry.consumedBy]

theorem SlotEntry.law_iff (e : SlotEntry) :
    e.law ↔ e.consumers.length ≤ 3 ∧ (e.consumers.map (fun c => c.station)).Nodup ∧
      (∀ c ∈ e.consumers, e.producedBy c.station = false) ∧
      (∀ c ∈ e.consumers, c.orphaned = true → c.releaseDue = true) ∧
      ∀ p ∈ e.producer, p.orphaned = true → p.releaseDue = true := by
  cases h : e.producer <;> simp [SlotEntry.law, h]

theorem emptyEntry_law : emptyEntry.law := by simp [SlotEntry.law_iff, emptyEntry]

/-- An entry with the stations of a lawful one is lawful if it has no role ORPHANED without RELEASE_DUE (R39, R40). -/
theorem SlotEntry.law_of_same_stations {e e' : SlotEntry} (he : e.law)
    (hp : e'.producer.map (fun p => p.station) = e.producer.map (fun p => p.station))
    (hc : e'.consumers.map (fun c => c.station) = e.consumers.map (fun c => c.station))
    (hflags : ∀ c ∈ e'.consumers, c.orphaned = true → c.releaseDue = true)
    (hflag : ∀ p ∈ e'.producer, p.orphaned = true → p.releaseDue = true) : e'.law := by
  obtain ⟨hlen, hnodup, hself, -, -⟩ := he
  have hproduced : ∀ n, e'.producedBy n = e.producedBy n := fun n => by
    rw [Bool.eq_iff_iff, producedBy_iff, producedBy_iff, hp]
  have hsame : e'.consumers.length = e.consumers.length := by simpa using congrArg List.length hc
  refine e'.law_iff.mpr ⟨by omega, by rwa [hc], fun c hmem => ?_, hflags, hflag⟩
  have hst : c.station ∈ e.consumers.map (fun c => c.station) := hc ▸ List.mem_map_of_mem hmem
  obtain ⟨d, hd, hdc⟩ := List.mem_map.mp hst
  rw [hproduced, ← hdc]
  exact hself d hd

/-- An entry with fewer roles than a lawful one is lawful. -/
theorem SlotEntry.law_of_fewer_roles {e e' : SlotEntry} (he : e.law)
    (hp : e'.producer = none ∨ e'.producer = e.producer) (hc : e'.consumers.Sublist e.consumers) : e'.law := by
  obtain ⟨hlen, hnodup, hself, hflags, hflag⟩ := e.law_iff.mp he
  refine e'.law_iff.mpr ⟨hc.length_le.trans hlen, (hc.map _).nodup hnodup, fun c hmem => ?_,
    fun c hmem => hflags c (hc.subset hmem), ?_⟩
  · rcases hp with hp | hp
    · simp [SlotEntry.producedBy, hp]
    · simpa only [SlotEntry.producedBy, hp] using hself c (hc.subset hmem)
  · rcases hp with hp | hp
    · simp [hp]
    · rwa [hp]

/-- The producer and the consumers of an entry, without their flags: what `roleSets` gives of each slot. -/
def SlotEntry.roles (e : SlotEntry) : Option Station × List (Station × LogMode) :=
  (e.producer.map (fun p => p.station), e.consumers.map (fun c => (c.station, c.mode)))

theorem roleSets_eq (m : List SlotEntry) : roleSets m = m.map SlotEntry.roles := rfl

/-- Every role of station n in the entry marked RELEASE_DUE, and ORPHANED too if `gone`: the marking of R43 and the
orphaning of R44 in one. -/
def SlotEntry.raiseFlags (n : Station) (gone : Bool) (e : SlotEntry) : SlotEntry :=
  { producer := e.producer.map
      (fun p => if p.station = n then { p with releaseDue := true, orphaned := gone || p.orphaned } else p)
    consumers := e.consumers.map
      (fun c => if c.station = n then { c with releaseDue := true, orphaned := gone || c.orphaned } else c) }

theorem SlotEntry.markRelease_eq (n : Station) : SlotEntry.markRelease n = SlotEntry.raiseFlags n false := rfl

theorem SlotEntry.orphan_eq (n : Station) : SlotEntry.orphan n = SlotEntry.raiseFlags n true := rfl

/-- Marking and orphaning change flags alone (R43, R44). -/
theorem SlotEntry.raiseFlags_roles (n : Station) (gone : Bool) (e : SlotEntry) :
    (e.raiseFlags n gone).roles = e.roles := by
  simp only [roles, raiseFlags, Option.map_map, List.map_map, Prod.mk.injEq]
  constructor
  · congr 1; funext p; simp only [Function.comp]; split <;> rfl
  · congr 1; funext c; simp only [Function.comp]; split <;> rfl

theorem SlotEntry.law_raiseFlags (n : Station) (gone : Bool) {e : SlotEntry} (he : e.law) :
    (e.raiseFlags n gone).law := by
  have hroles := e.raiseFlags_roles n gone
  obtain ⟨-, -, -, hflags, hflag⟩ := e.law_iff.mp he
  refine SlotEntry.law_of_same_stations he (congrArg Prod.fst hroles)
    (by simpa [roles, Function.comp_def] using congrArg (fun r => r.2.map Prod.fst) hroles) ?_ ?_
  · simp only [raiseFlags, List.forall_mem_map]
    intro c hc
    split
    · exact fun _ => rfl
    · exact hflags c hc
  · intro _ hmarked
    obtain ⟨p, hp, rfl⟩ := Option.map_eq_some_iff.mp hmarked
    split
    · exact fun _ => rfl
    · exact hflag p hp

/-- The removal of the roles marked RELEASE_DUE leaves the producer or takes it away (R48). -/
theorem SlotEntry.removeDue_producer (e : SlotEntry) :
    e.removeDue.producer = none ∨ e.removeDue.producer = e.producer := by
  unfold removeDue
  split
  · exact .inl rfl
  · exact .inr rfl

theorem SlotEntry.law_removeDue {e : SlotEntry} (he : e.law) : e.removeDue.law :=
  SlotEntry.law_of_fewer_roles he e.removeDue_producer List.filter_sublist

/-- A claimed slot: the claimant is no consumer of it (R70). -/
theorem SlotEntry.law_claimed {e : SlotEntry} (he : e.law) {o : Station} (ho : e.consumedBy o = false) :
    { e with producer := some { station := o, releaseDue := false, orphaned := false } : SlotEntry }.law := by
  obtain ⟨hlen, hnodup, -, hflags, -⟩ := he
  rw [SlotEntry.consumedBy_eq_false_iff] at ho
  exact ⟨hlen, hnodup, fun c hc => by simpa [producedBy] using (ho c hc).symm, hflags, by simp⟩

/-- A consumer record takes another logging mode (R73). -/
theorem SlotEntry.law_modeSet {e : SlotEntry} (he : e.law) (o : Station) (mode : LogMode) :
    { e with
      consumers := e.consumers.map (fun c => if c.station = o then { c with mode := mode } else c) : SlotEntry }.law := by
  obtain ⟨-, -, -, hflags, hflag⟩ := e.law_iff.mp he
  refine SlotEntry.law_of_same_stations he rfl ?_ ?_ hflag
  · rw [List.map_map]
    exact List.map_congr_left fun c _ => by simp only [Function.comp]; split <;> rfl
  · simp only [List.forall_mem_map]
    intro c hc
    split <;> exact hflags c hc

/-- A new consumer record: the subscriber has none, is not the producer, and there is room for it (R73). -/
theorem SlotEntry.law_subscribed {e : SlotEntry} (he : e.law) {o : Station} (mode : LogMode)
    (ho : e.consumedBy o = false) (hself : e.producedBy o = false) (hroom : e.consumers.length < 3) :
    { e with
      consumers := e.consumers ++
        [{ station := o, mode := mode, releaseDue := false, orphaned := false }] : SlotEntry }.law := by
  obtain ⟨-, hnodup, hproducer, hflags, hflag⟩ := he
  rw [SlotEntry.consumedBy_eq_false_iff] at ho
  refine ⟨by simpa using hroom, ?_, ?_, ?_, hflag⟩
  · rw [List.map_append, List.nodup_append]
    exact ⟨hnodup, by simp, by simpa using ho⟩
  · intro c hc
    rcases List.mem_append.mp hc with hc | hc
    · exact hproducer c hc
    · rw [List.mem_singleton.mp hc]; exact hself
  · intro c hc
    rcases List.mem_append.mp hc with hc | hc
    · exact hflags c hc
    · rw [List.mem_singleton.mp hc]; exact fun h => h

/-! ## The map -/

/-- The law of a map (R38, R39). -/
def MapLaw (m : List SlotEntry) : Prop :=
  m.length = 48 ∧ (∀ e ∈ m, e.law) ∧ ∀ n, producerCount m n ≤ 16

theorem State.mapLaw_iff (s : State) : s.mapLaw ↔ MapLaw s.slotMap := Iff.rfl

theorem producerCount_eq_countP (m : List SlotEntry) (n : Station) :
    producerCount m n = m.countP (fun e => e.producedBy n) := List.countP_eq_length_filter.symm

theorem MapLaw.mapEntry_law {m : List SlotEntry} (h : MapLaw m) (k : Nat) : (mapEntry m k).law := by
  obtain ⟨-, hlaw, -⟩ := h
  by_cases hk : k < m.length
  · rw [mapEntry, List.getD_eq_getElem _ _ hk]
    exact hlaw _ (List.getElem_mem hk)
  · rw [mapEntry, List.getD_eq_default _ _ (by omega)]
    exact emptyEntry_law

/-- The map stays lawful if every entry does and none gains a producer. -/
theorem MapLaw.map {m : List SlotEntry} (h : MapLaw m) {f : SlotEntry → SlotEntry}
    (hlaw : ∀ e : SlotEntry, e.law → (f e).law)
    (hprod : ∀ (e : SlotEntry) (n : Station), (f e).producedBy n = true → e.producedBy n = true) : MapLaw (m.map f) := by
  obtain ⟨hlen, hentries, hcount⟩ := h
  refine ⟨by simpa using hlen, fun e he => ?_, fun n => ?_⟩
  · obtain ⟨e0, he0, rfl⟩ := List.mem_map.mp he
    exact hlaw e0 (hentries e0 he0)
  · refine le_trans ?_ (hcount n)
    rw [producerCount_eq_countP, producerCount_eq_countP, List.countP_map]
    exact List.countP_mono_left fun e _ => hprod e n

theorem MapLaw.map_of_roles {m : List SlotEntry} (h : MapLaw m) {f : SlotEntry → SlotEntry}
    (hlaw : ∀ e : SlotEntry, e.law → (f e).law) (hroles : ∀ e, (f e).roles = e.roles) : MapLaw (m.map f) :=
  h.map hlaw fun e n hn => by
    rw [SlotEntry.producedBy_iff] at hn ⊢
    exact (congrArg Prod.fst (hroles e)).symm.trans hn

theorem roleSets_map_of_roles (m : List SlotEntry) {f : SlotEntry → SlotEntry}
    (hroles : ∀ e, (f e).roles = e.roles) : roleSets (m.map f) = roleSets m := by
  rw [roleSets_eq, roleSets_eq, List.map_map]
  exact List.map_congr_left fun e _ => hroles e

theorem MapLaw.removeDue {m : List SlotEntry} (h : MapLaw m) : MapLaw (m.map SlotEntry.removeDue) :=
  h.map (fun _ => SlotEntry.law_removeDue) fun e n hn => by
    rw [SlotEntry.producedBy_iff] at hn ⊢
    rcases e.removeDue_producer with hp | hp
    · simp [hp] at hn
    · rwa [hp] at hn

/-- One entry replaced by a lawful one: a station may become its producer if it produces fewer than 16 slots (R39). -/
theorem MapLaw.set {m : List SlotEntry} (h : MapLaw m) (k : Nat) {e : SlotEntry} (he : e.law)
    (hprod : ∀ n, e.producedBy n = true → (mapEntry m k).producedBy n = true ∨ producerCount m n < 16) :
    MapLaw (m.set k e) := by
  by_cases hk : k < m.length
  · obtain ⟨hlen, hentries, hcount⟩ := h
    refine ⟨by simpa using hlen, fun x hx => ?_, fun n => ?_⟩
    · rcases List.mem_or_eq_of_mem_set hx with hx | rfl
      · exact hentries x hx
      · exact he
    · have hn := hcount n
      have hpn := hprod n
      rw [mapEntry, List.getD_eq_getElem _ _ hk] at hpn
      rw [producerCount_eq_countP] at hn hpn ⊢
      rw [List.countP_set hk]
      have hpos : m[k].producedBy n = true → 0 < m.countP (fun e => e.producedBy n) := fun hb =>
        List.countP_pos_iff.mpr ⟨_, List.getElem_mem hk, hb⟩
      by_cases hnew : e.producedBy n = true
      · rcases hpn hnew with hold | hless
        · have := hpos hold
          simp only [hnew, hold, if_true]
          omega
        · simp only [hnew, if_true]
          omega
      · rw [if_neg hnew]
        omega
  · rwa [List.set_eq_of_length_le (by omega)]

/-! ## A change applied (R70 to R74) -/

/-- What the checks of a CLAIM find (R70). -/
theorem Change.claim_ok {c : Change} {m : List SlotEntry} {o : Station} (hkind : c.kind = .claim)
    (horigin : c.origin = some o) (hok : c.check m = .ok) :
    (mapEntry m c.slot).consumedBy o = false ∧ producerCount m o < 16 := by
  simp only [Change.check, hkind, horigin] at hok
  split_ifs at hok with _ hconsumer hlimit
  exact ⟨by simpa using hconsumer, not_le.mp hlimit⟩

/-- What the checks of a SUBSCRIBE find where the origin holds no record (R73). -/
theorem Change.subscribe_ok {c : Change} {m : List SlotEntry} {o : Station} {mode : LogMode}
    (hkind : c.kind = .subscribe mode) (horigin : c.origin = some o) (hok : c.check m = .ok)
    (hnew : (mapEntry m c.slot).consumedBy o = false) :
    (mapEntry m c.slot).producedBy o = false ∧ (mapEntry m c.slot).consumers.length < 3 := by
  simp only [Change.check, hkind, horigin, hnew, Bool.false_eq_true, if_false] at hok
  split_ifs at hok with hproducer hroom
  exact ⟨by simpa using hproducer, hroom⟩

/-- An applied change makes a lawful entry of a lawful one: its checks keep a station from both roles and an entry from a
fourth consumer record (R70 to R74). -/
theorem Change.applied_law {c : Change} {m : List SlotEntry} (hok : c.check m = .ok) (he : (mapEntry m c.slot).law) :
    (c.applied (mapEntry m c.slot)).law := by
  obtain ⟨id, origin, kind, slot, stamp⟩ := c
  simp only at he
  cases kind with
  | release =>
    cases origin with
    | none => simp [Change.check] at hok
    | some o => exact SlotEntry.law_of_fewer_roles he (.inl rfl) (List.Sublist.refl _)
  | forceRelease => exact SlotEntry.law_of_fewer_roles he (.inl rfl) (List.Sublist.refl _)
  | unsubscribe =>
    cases origin with
    | none => simp [Change.check] at hok
    | some o => exact SlotEntry.law_of_fewer_roles he (.inr rfl) List.filter_sublist
  | claim =>
    cases origin with
    | none => simp [Change.check] at hok
    | some o =>
      obtain ⟨hfree, -⟩ := Change.claim_ok rfl rfl hok
      exact SlotEntry.law_claimed he hfree
  | subscribe mode =>
    cases origin with
    | none => simp [Change.check] at hok
    | some o =>
      simp only [Change.applied]
      split
      · exact SlotEntry.law_modeSet he o mode
      · next hnew =>
        have hnone : (mapEntry m slot).consumedBy o = false := by simpa using hnew
        obtain ⟨hother, hroom⟩ := Change.subscribe_ok rfl rfl hok hnone
        exact SlotEntry.law_subscribed he mode hnone hother hroom

/-- A station becomes a producer by a CLAIM alone, and below its limit (R70). -/
theorem Change.applied_producedBy {c : Change} {m : List SlotEntry} (hok : c.check m = .ok) {n : Station}
    (hn : (c.applied (mapEntry m c.slot)).producedBy n = true) :
    (mapEntry m c.slot).producedBy n = true ∨ producerCount m n < 16 := by
  obtain ⟨id, origin, kind, slot, stamp⟩ := c
  cases kind with
  | claim =>
    cases origin with
    | none => simp [Change.check] at hok
    | some o =>
      have ho : o = n := by simpa [Change.applied, SlotEntry.producedBy] using hn
      subst ho
      exact .inr (Change.claim_ok rfl rfl hok).2
  | release => cases origin <;> simp [Change.applied, SlotEntry.producedBy] at hn
  | forceRelease => cases origin <;> simp [Change.applied, SlotEntry.producedBy] at hn
  | subscribe mode =>
    left
    cases origin with
    | none => exact hn
    | some o =>
      simp only [Change.applied] at hn
      split at hn <;> exact hn
  | unsubscribe => left; cases origin <;> exact hn

/-- A change keeps the law of the map (R39, R70 to R74). -/
theorem MapLaw.onMap {m : List SlotEntry} (h : MapLaw m) (c : Change) : MapLaw (c.onMap m) := by
  unfold Change.onMap
  split
  · next hok =>
    exact h.set c.slot (Change.applied_law hok (h.mapEntry_law c.slot)) fun _ => Change.applied_producedBy hok
  · exact h

/-- The projected map of a lawful one is lawful (R56). -/
theorem MapLaw.projectFrom {m : List SlotEntry} (h : MapLaw m) (l : List Change) : MapLaw (projectFrom m l) := by
  induction l generalizing m with
  | nil => exact h
  | cons c l ih => exact ih (h.onMap c)

/-! ## The map after each operation that writes it -/

theorem State.mapLaw_raiseFlags {s : State} (h : s.mapLaw) (n : Station) (gone : Bool) :
    MapLaw (s.slotMap.map (SlotEntry.raiseFlags n gone)) :=
  MapLaw.map_of_roles h (fun _ he => SlotEntry.law_raiseFlags n gone he) (SlotEntry.raiseFlags_roles n gone)

@[simp] theorem State.raiseAll_slotMap (s : State) (st : Stamp) (l : List (Station × Event)) :
    (s.raiseAll st l).slotMap = s.slotMap := by rw [State.raiseAll_eq]; rfl

@[simp] theorem State.raiseAll_changes (s : State) (st : Stamp) (l : List (Station × Event)) :
    (s.raiseAll st l).changes = s.changes := by rw [State.raiseAll_eq]; rfl

theorem State.commitChange_slotMap (s : State) (c : Change) : (s.commitChange c).slotMap = c.onMap s.slotMap := by
  unfold State.commitChange Change.onMap
  split <;> simp [*]

theorem State.foldl_commitChange_slotMap (l : List Change) (s : State) :
    (l.foldl (fun t c => t.commitChange c) s).slotMap = projectFrom s.slotMap l := by
  induction l generalizing s with
  | nil => rfl
  | cons c l ih => rw [List.foldl_cons, ih, State.commitChange_slotMap]; rfl

/-- The commit makes the projected map the active one (R41, R56). -/
theorem State.commit_slotMap (s : State) : s.commit.slotMap = s.projected := by
  simp [State.commit, State.foldl_commitChange_slotMap, State.removeDueRoles, State.projected]

theorem State.mapLaw_commit {s : State} (h : s.mapLaw) : s.commit.mapLaw := by
  rw [State.mapLaw_iff, State.commit_slotMap]
  exact (MapLaw.removeDue h).projectFrom s.changes

/-! ## What an operation that makes no boundary does to the map -/

/-- From s to t no boundary is made and no commit falls due, and without a commit due the role sets stay (R41). -/
structure State.KeepsMap (s t : State) : Prop where
  law    : s.mapLaw → t.mapLaw
  frame  : t.timer.frame = s.timer.frame
  commit : Work.commit ∈ t.due → Work.commit ∈ s.due
  sets   : Work.commit ∉ s.due → roleSets t.slotMap = roleSets s.slotMap

namespace State.KeepsMap

theorem refl (s : State) : s.KeepsMap s := ⟨id, rfl, id, fun _ => rfl⟩

theorem trans {s t u : State} (h : s.KeepsMap t) (k : t.KeepsMap u) : s.KeepsMap u :=
  ⟨k.law ∘ h.law, k.frame.trans h.frame, h.commit ∘ k.commit,
    fun hc => (k.sets (hc ∘ h.commit)).trans (h.sets hc)⟩

/-- An update that leaves the map, the frame number and the works due alone. -/
theorem of_eq {s t : State} (hmap : t.slotMap = s.slotMap) (hframe : t.timer.frame = s.timer.frame)
    (hdue : t.due = s.due) : s.KeepsMap t :=
  ⟨fun h => by rwa [mapLaw_iff, hmap], hframe, fun h => hdue ▸ h, fun _ => by rw [hmap]⟩

/-- Such an update before another operation. -/
theorem after {s t u : State} (k : t.KeepsMap u) (hmap : t.slotMap = s.slotMap) (hframe : t.timer.frame = s.timer.frame)
    (hdue : t.due = s.due) : s.KeepsMap u := (of_eq hmap hframe hdue).trans k

theorem foldl {β : Type} {f : State → β → State} (h : ∀ t x, State.KeepsMap t (f t x)) (l : List β) (s : State) :
    s.KeepsMap (l.foldl f s) := by
  induction l generalizing s with
  | nil => exact refl s
  | cons x l ih => exact (h s x).trans (ih (f s x))

theorem ite {s a b : State} {c : Prop} [Decidable c] (ha : s.KeepsMap a) (hb : s.KeepsMap b) :
    s.KeepsMap (if c then a else b) := by split <;> assumption

/-- A request that answers one way or the other. -/
theorem ite_fst {s : State} {a b : State × Reply} {c : Prop} [Decidable c] (ha : s.KeepsMap a.1) (hb : s.KeepsMap b.1) :
    s.KeepsMap (if c then a else b).1 := by split <;> assumption

end State.KeepsMap

theorem State.dropWork_keepsMap (s : State) (w : Work) : s.KeepsMap (s.dropWork w) :=
  ⟨id, rfl, fun h => List.mem_of_mem_erase h, fun _ => rfl⟩

/-- Flags raised in every entry: the role sets stay (R43, R44). -/
theorem State.raiseFlags_keepsMap (s : State) (n : Station) (gone : Bool) :
    s.KeepsMap (s.setSlotMap (s.slotMap.map (SlotEntry.raiseFlags n gone))) :=
  ⟨fun h => s.mapLaw_raiseFlags h n gone, rfl, id,
    fun _ => roleSets_map_of_roles s.slotMap (SlotEntry.raiseFlags_roles n gone)⟩

/-! ### Records and rings -/

theorem State.raise_keepsMap (s : State) (n : Station) (st : Stamp) (e : Event) : s.KeepsMap (s.raise n st e) := by
  rw [State.raise_eq]; exact .of_eq rfl rfl rfl

theorem State.raiseAll_keepsMap (s : State) (st : Stamp) (l : List (Station × Event)) : s.KeepsMap (s.raiseAll st l) := by
  rw [State.raiseAll_eq]; exact .of_eq rfl rfl rfl

theorem State.raiseTimings_keepsMap (s : State) : s.KeepsMap s.raiseTimings := by
  rw [State.raiseTimings_eq]; exact .of_eq rfl rfl rfl

theorem State.appendRing_keepsMap (s : State) (n : Station) (e : RingEntry) : s.KeepsMap (s.appendRing n e) := by
  unfold State.appendRing
  have hset : ∀ r, s.KeepsMap (s.setRing n r) := fun _ => .of_eq rfl rfl rfl
  exact .ite (.ite ((hset _).trans (State.raise_keepsMap _ _ _ _)) (hset _))
    (.ite ((hset _).trans (State.raise_keepsMap _ _ _ _)) (hset _))

theorem State.latch_keepsMap (s : State) : s.KeepsMap s.latch := by
  refine .foldl (fun t k => ?_) slotNumbers s
  refine .after (.foldl (fun u c => ?_) _ _) rfl rfl rfl
  exact .ite (u.appendRing_keepsMap _ _) (.refl u)

/-! ### The acknowledgement table -/

theorem State.ackGranted_keepsMap (s : State) (m : Message) : s.KeepsMap (s.ackGranted m) :=
  .ite (.of_eq rfl rfl rfl) (.refl s)

theorem State.ackDelivered_keepsMap (s : State) (m : Message) : s.KeepsMap (s.ackDelivered m) :=
  .ite (.of_eq rfl rfl rfl) (.refl s)

theorem State.ackGone_keepsMap (s : State) (m : Message) : s.KeepsMap (s.ackGone m) :=
  .ite (.of_eq rfl rfl rfl) (.refl s)

theorem State.ackCountdown_keepsMap (s : State) : s.KeepsMap s.ackCountdown :=
  .after (State.raiseAll_keepsMap _ _ _) rfl rfl rfl

theorem State.ackResolve_keepsMap (s : State) (x : Station) (st : Stamp) : s.KeepsMap (s.ackResolve x st) :=
  .after (State.raiseAll_keepsMap _ _ _) rfl rfl rfl

/-! ### The message lane -/

theorem State.undeliverable_keepsMap (s : State) (st : Stamp) (r : Reason) (m : Message) :
    s.KeepsMap (s.undeliverable st r m) := (s.raise_keepsMap _ _ _).trans (State.ackGone_keepsMap _ _)

theorem State.grant_keepsMap (s : State) (n : Station) (c : MsgClass) : s.KeepsMap (s.grant n c) := by
  unfold State.grant
  split
  · exact .refl s
  · exact .after (State.ackGranted_keepsMap _ _) rfl rfl rfl

theorem State.deliver_keepsMap (s : State) (t : Transfer) : s.KeepsMap (s.deliver t) := by
  unfold State.deliver
  refine .trans ?_ (State.ackDelivered_keepsMap _ _)
  exact .after (State.raiseAll_keepsMap _ _ _) rfl rfl rfl

theorem State.laneDone_keepsMap (s : State) : s.KeepsMap s.laneDone :=
  .after (State.dropWork_keepsMap _ _) rfl rfl rfl

theorem State.setLane_keepsMap (s : State) (l : Lane) : s.KeepsMap (s.setLane l) := .of_eq rfl rfl rfl

theorem State.laneTransferStep_keepsMap (s : State) : s.KeepsMap s.laneTransferStep := by
  unfold State.laneTransferStep
  refine .trans (s.setLane_keepsMap s.lane.withSettings) ?_
  simp only
  split
  · exact State.setLane_keepsMap _ _
  · refine .ite ((State.deliver_keepsMap _ _).trans (State.setLane_keepsMap _ _)) ?_
    exact (State.setLane_keepsMap _ _).trans (State.laneDone_keepsMap _)

theorem State.laneArbitrate_keepsMap (s : State) : s.KeepsMap s.laneArbitrate := by
  unfold State.laneArbitrate
  refine .trans ?_ (State.setLane_keepsMap _ _)
  split
  · exact s.grant_keepsMap _ _
  · exact .refl s

theorem State.raiseHold_keepsMap (s : State) (x : Station × MsgClass) : s.KeepsMap (s.raiseHold x) := by
  unfold State.raiseHold
  split
  · exact .refl s
  · exact .ite ((s.setLane_keepsMap _).trans (State.undeliverable_keepsMap _ _ _ _)) (s.setLane_keepsMap _)

theorem State.laneHoldCount_keepsMap (s : State) (b : List (Station × MsgClass)) : s.KeepsMap (s.laneHoldCount b) :=
  .trans (.foldl State.raiseHold_keepsMap b s) (State.laneDone_keepsMap _)

theorem State.laneToArbitration_keepsMap (s : State) : s.KeepsMap s.laneToArbitration := by
  unfold State.laneToArbitration
  split
  · exact s.laneTransferStep_keepsMap
  · exact .refl s

theorem State.laneToHold_keepsMap (s : State) : s.KeepsMap s.laneToHold := by
  unfold State.laneToHold
  refine .trans s.laneToArbitration_keepsMap ?_
  simp only
  split
  · exact State.laneArbitrate_keepsMap _
  · exact .refl _

theorem State.laneFinish_keepsMap (s : State) : s.KeepsMap s.laneFinish := by
  unfold State.laneFinish
  refine .trans s.laneToHold_keepsMap ?_
  simp only
  split
  · exact State.laneHoldCount_keepsMap _ _
  · exact .refl _

theorem State.closeLane_keepsMap (s : State) : s.KeepsMap s.closeLane := by
  unfold State.closeLane
  split
  · exact .refl s
  · exact s.laneFinish_keepsMap

theorem State.returns_keepsMap (s : State) (x : Station) (st : Stamp) : s.KeepsMap (s.returns x st) :=
  .foldl (fun t _ => (t.setLane_keepsMap _).trans (.foldl (fun u m => u.undeliverable_keepsMap _ _ m) _ _)) _ s

theorem State.dropFromTransfer_keepsMap (s : State) (n : Station) (st : Stamp) : s.KeepsMap (s.dropFromTransfer n st) := by
  unfold State.dropFromTransfer
  split
  · exact .refl s
  · refine .ite (s.setLane_keepsMap _) (.ite (.ite ?_ (s.setLane_keepsMap _)) (.refl s))
    exact .trans (s.setLane_keepsMap _) (State.undeliverable_keepsMap _ _ _ _)

/-! ### Departures -/

theorem State.setStation_keepsMap (s : State) (n : Station) (r : StationRec) : s.KeepsMap (s.setStation n r) :=
  .of_eq rfl rfl rfl

theorem State.setRing_keepsMap (s : State) (n : Station) (r : Ring) : s.KeepsMap (s.setRing n r) := .of_eq rfl rfl rfl

theorem State.setChanges_keepsMap (s : State) (l : List Change) : s.KeepsMap (s.setChanges l) := .of_eq rfl rfl rfl

theorem State.emptyQueue_keepsMap (s : State) (n : Station) : s.KeepsMap (s.emptyQueue n) := .of_eq rfl rfl rfl

theorem State.setAckList_keepsMap (s : State) (n : Station) (l : List AckEntry) : s.KeepsMap (s.setAckList n l) :=
  .of_eq rfl rfl rfl

theorem State.announce_keepsMap (s : State) (n : Station) (x : StationState) (c : Cause) (h : Bool) (st : Stamp) :
    s.KeepsMap (s.announce n x c h st) := by
  have hothers : s.KeepsMap (s.raiseToOthers n st (.stationChanged n x c)) := State.raiseAll_keepsMap _ _ _
  exact .ite (hothers.trans (State.raiseAll_keepsMap _ _ _)) hothers

theorem State.dropRole_keepsMap (s : State) (n : Station) : s.KeepsMap (s.dropRole n) :=
  .ite (.of_eq rfl rfl rfl) (.refl s)

/-- Marked roles stay in the map until the next commit (R43). -/
theorem State.markRoles_keepsMap (s : State) (n : Station) : s.KeepsMap (s.markRoles n) := by
  unfold State.markRoles
  rw [SlotEntry.markRelease_eq]
  exact s.raiseFlags_keepsMap n false

/-- Orphaned roles stay in the map until the next commit (R44). -/
theorem State.orphanRoles_keepsMap (s : State) (n : Station) (st : Stamp) : s.KeepsMap (s.orphanRoles n st) := by
  unfold State.orphanRoles
  rw [SlotEntry.orphan_eq]
  exact (s.raiseFlags_keepsMap n true).trans (State.raiseAll_keepsMap _ _ _)

theorem State.depart_keepsMap (s : State) (n : Station) (x : StationState) (c : Cause) (st : Stamp) :
    s.KeepsMap (s.depart n x c st) := by
  unfold State.depart
  refine .trans ?_ (State.emptyQueue_keepsMap _ _)
  refine .trans ?_ (State.ackResolve_keepsMap _ _ _)
  refine .trans ?_ (State.setAckList_keepsMap _ _ _)
  refine .trans ?_ (State.returns_keepsMap _ _ _)
  refine .trans ?_ (State.setLane_keepsMap _ _)
  refine .trans ?_ (State.dropFromTransfer_keepsMap _ _ _)
  refine .trans ?_ (State.setLane_keepsMap _ _)
  refine .trans ?_ (State.setRing_keepsMap _ _ _)
  refine .trans ?_ (State.setChanges_keepsMap _ _)
  refine .trans ?_ (State.orphanRoles_keepsMap _ _ _)
  refine .trans ?_ (State.announce_keepsMap _ _ _ _ _ _)
  exact (s.setStation_keepsMap _ _).trans (State.dropRole_keepsMap _ _)

theorem State.endLeaving_keepsMap (s : State) (n : Station) (st : Stamp) : s.KeepsMap (s.endLeaving n st) := by
  unfold State.endLeaving
  refine .trans ?_ (State.emptyQueue_keepsMap _ _)
  refine .trans ?_ (State.ackResolve_keepsMap _ _ _)
  refine .trans ?_ (State.returns_keepsMap _ _ _)
  refine .trans ?_ (State.setLane_keepsMap _ _)
  refine .trans ?_ (State.setRing_keepsMap _ _ _)
  refine .trans ?_ (State.setChanges_keepsMap _ _)
  refine .trans ?_ (State.orphanRoles_keepsMap _ _ _)
  exact (s.setStation_keepsMap _ _).trans (State.announce_keepsMap _ _ _ _ _ _)

theorem State.leave_keepsMap (s : State) (n : Station) (st : Stamp) : s.KeepsMap (s.leave n st) := by
  unfold State.leave
  refine .trans ?_ (State.setAckList_keepsMap _ _ _)
  refine .trans ?_ (State.returns_keepsMap _ _ _)
  refine .trans ?_ (State.setLane_keepsMap _ _)
  refine .trans ?_ (State.setChanges_keepsMap _ _)
  refine .trans ?_ (State.markRoles_keepsMap _ _)
  refine .trans ?_ (State.announce_keepsMap _ _ _ _ _ _)
  exact (s.setStation_keepsMap _ _).trans (State.dropRole_keepsMap _ _)

/-! ### The works of a boundary -/

theorem State.leaseCountdown_keepsMap (s : State) (n : Station) : s.KeepsMap (s.leaseCountdown n) := by
  unfold State.leaseCountdown
  refine .ite (.ite (s.depart_keepsMap _ _ _ _) (.ite ?_ (s.setStation_keepsMap _ _))) (.refl s)
  exact (s.setStation_keepsMap _ _).trans (State.raise_keepsMap _ _ _ _)

theorem State.examineLeaving_keepsMap (s : State) (n : Station) : s.KeepsMap (s.examineLeaving n) :=
  .ite (s.endLeaving_keepsMap _ _) (.refl s)

/-- Every work but the commit keeps the map. -/
theorem State.doWork_keepsMap (s : State) {w : Work} (hw : w ≠ .commit) : s.KeepsMap (s.doWork w) := by
  cases w with
  | timing => exact s.raiseTimings_keepsMap
  | lease n => exact s.leaseCountdown_keepsMap n
  | latch => exact s.latch_keepsMap
  | lane => exact s.laneFinish_keepsMap
  | ack => exact s.ackCountdown_keepsMap
  | commit => exact absurd rfl hw
  | leaving n => exact s.examineLeaving_keepsMap n

/-- A work taken keeps the map's law; the commit changes the role sets, but only where it is due. -/
theorem State.takeWork_keepsMap (s : State) (w : Work) : s.KeepsMap (s.takeWork w) := by
  by_cases hdue : w ∈ s.due
  swap
  · rw [s.takeWork_not_due w hdue]; exact .refl s
  have hbefore : s.KeepsMap (s.closeLane.dropWork w) := s.closeLane_keepsMap.trans (State.dropWork_keepsMap _ _)
  by_cases hw : w = .commit
  · subst hw
    have htaken : s.takeWork .commit = (s.closeLane.dropWork .commit).commit := by
      rw [State.takeWork, if_pos hdue, if_neg (by decide)]; rfl
    exact ⟨fun h => htaken ▸ State.mapLaw_commit (hbefore.law h), congrArg Timer.frame (s.takeWork_same _).timer,
      fun _ => hdue, fun hnot => absurd hdue hnot⟩
  · exact .ite (.ite s.laneFinish_keepsMap (hbefore.trans (State.doWork_keepsMap _ hw))) (.refl s)

theorem State.takeWorks_keepsMap (s : State) (l : List Work) : s.KeepsMap (s.takeWorks l) :=
  .foldl State.takeWork_keepsMap l s

theorem State.settle_keepsMap (s : State) : s.KeepsMap s.settle := s.takeWorks_keepsMap _

/-! ### The requests -/

theorem State.setQueue_keepsMap (s : State) (n : Station) (q : EventQueue) : s.KeepsMap (s.setQueue n q) :=
  .of_eq rfl rfl rfl

theorem State.setPort_keepsMap (s : State) (p : Station) (q : Port) : s.KeepsMap (s.setPort p q) := .of_eq rfl rfl rfl

theorem State.setRegistry_keepsMap (s : State) (r : Registry) : s.KeepsMap (s.setRegistry r) := .of_eq rfl rfl rfl

/-- A request for staging appends to the change list or is refused: the map in force stays (R57). -/
theorem State.stageRequest_keepsMap (s : State) (o : Option Station) (k : ChangeKind) (j : Nat) (own : Option Status) :
    s.KeepsMap (s.stageRequest o k j own).1 := by
  unfold State.stageRequest
  split
  · exact .refl s
  · split
    · exact .refl s
    · exact s.setChanges_keepsMap _

theorem State.enqueue_keepsMap (s : State) (p : Station) (m : Message) : s.KeepsMap (s.enqueue p m) := by
  unfold State.enqueue
  simp only
  split <;> exact .of_eq rfl rfl rfl

section
variable (p : Station) (ops : List Byte) (s : State)

theorem serveJoin_keepsMap : s.KeepsMap (serveJoin p ops s).1 := by
  refine .ite_fst (.refl s) ?_
  exact ((s.setStation_keepsMap _ _).trans (State.dropWork_keepsMap _ _)).trans (State.raiseAll_keepsMap _ _ _)

theorem serveLeave_keepsMap : s.KeepsMap (serveLeave p ops s).1 := by
  have hpass : s.KeepsMap (s.passExamination p) := .ite (.refl s) (s.dropWork_keepsMap _)
  exact hpass.trans (State.leave_keepsMap _ _ _)

theorem serveDetach_keepsMap : s.KeepsMap (serveDetach p ops s).1 := s.depart_keepsMap p .absent .detached s.stamp

theorem serveRenew_keepsMap : s.KeepsMap (serveRenew p ops s).1 :=
  .ite_fst (s.setStation_keepsMap _ _) (.refl s)

theorem serveReadStatus_keepsMap : s.KeepsMap (serveReadStatus p ops s).1 := by
  simpa only [serveReadStatus] using s.settle_keepsMap

theorem serveClaimCoordinator_keepsMap : s.KeepsMap (serveClaimCoordinator p ops s).1 := by
  unfold serveClaimCoordinator
  split
  · exact (s.setRegistry_keepsMap _).trans (State.raiseAll_keepsMap _ _ _)
  · split <;> exact .refl s

theorem serveResign_keepsMap : s.KeepsMap (serveResign p ops s).1 :=
  .ite_fst ((s.setRegistry_keepsMap _).trans (State.raiseAll_keepsMap _ _ _)) (.refl s)

theorem serveSetTiming_keepsMap : s.KeepsMap (serveSetTiming p ops s).1 := by
  unfold serveSetTiming
  simp only
  split
  · split
    · exact .of_eq rfl rfl rfl
    · exact .refl s
  · exact .refl s

theorem serveSetLane_keepsMap : s.KeepsMap (serveSetLane p ops s).1 :=
  .ite_fst (s.setLane_keepsMap _) (.refl s)

theorem serveSetLease_keepsMap : s.KeepsMap (serveSetLease p ops s).1 :=
  .ite_fst (s.setRegistry_keepsMap _) (.refl s)

theorem serveEvict_keepsMap : s.KeepsMap (serveEvict p ops s).1 := by
  unfold serveEvict
  split
  · exact .refl s
  · split
    · exact .refl s
    · split
      · exact s.depart_keepsMap _ _ _ _
      · exact .refl s

theorem serveForceRelease_keepsMap : s.KeepsMap (serveForceRelease p ops s).1 :=
  .ite_fst (s.stageRequest_keepsMap _ _ _ _) (.refl s)

theorem serveClaimSlot_keepsMap : s.KeepsMap (serveClaimSlot p ops s).1 := by
  unfold serveClaimSlot
  simp only
  split
  · exact s.stageRequest_keepsMap _ _ _ _
  · split
    · split <;> exact s.stageRequest_keepsMap _ _ _ _
    · exact .refl s

theorem serveReleaseSlot_keepsMap : s.KeepsMap (serveReleaseSlot p ops s).1 :=
  .ite_fst (s.stageRequest_keepsMap _ _ _ _) (.refl s)

theorem serveSubscribe_keepsMap : s.KeepsMap (serveSubscribe p ops s).1 := by
  unfold serveSubscribe
  simp only
  split
  · split
    · exact s.stageRequest_keepsMap _ _ _ _
    · exact .refl s
  · exact .refl s

theorem serveUnsubscribe_keepsMap : s.KeepsMap (serveUnsubscribe p ops s).1 :=
  .ite_fst (s.stageRequest_keepsMap _ _ _ _) (.refl s)

theorem serveWithdraw_keepsMap : s.KeepsMap (serveWithdraw p ops s).1 := by
  unfold serveWithdraw
  simp only
  split
  · exact .refl s
  · split
    · split
      · exact s.setChanges_keepsMap _
      · exact .refl s
    · split
      · exact s.setChanges_keepsMap _
      · exact .refl s

theorem serveReadMap_keepsMap : s.KeepsMap (serveReadMap p ops s).1 :=
  .ite_fst (.refl s) (.refl s)

theorem servePublish_keepsMap : s.KeepsMap (servePublish p ops s).1 := by
  unfold servePublish
  simp only
  split
  · exact .refl s
  · exact .of_eq rfl rfl rfl

theorem serveReadSlot_keepsMap : s.KeepsMap (serveReadSlot p ops s).1 :=
  .ite_fst (.ite_fst (.refl s) (.refl s)) (.refl s)

theorem serveDrainRing_keepsMap : s.KeepsMap (serveDrainRing p ops s).1 :=
  .ite_fst (.ite_fst (.refl s) (s.setRing_keepsMap _ _)) (.refl s)

theorem serveSetWatermark_keepsMap : s.KeepsMap (serveSetWatermark p ops s).1 :=
  .ite_fst (s.setRing_keepsMap _ _) (.refl s)

theorem servePost_keepsMap : s.KeepsMap (servePost p ops s).1 := by
  unfold servePost
  split
  · exact .refl s
  · split
    · exact .refl s
    · exact s.enqueue_keepsMap _ _

theorem serveCancel_keepsMap : s.KeepsMap (serveCancel p ops s).1 := by
  unfold serveCancel
  split
  · exact .refl s
  · split <;> exact (s.setLane_keepsMap _).trans (State.ackGone_keepsMap _ _)

theorem serveTakeMessage_keepsMap : s.KeepsMap (serveTakeMessage p ops s).1 := by
  unfold serveTakeMessage
  split
  · exact .refl s
  · exact s.setLane_keepsMap _

theorem servePeekMessage_keepsMap : s.KeepsMap (servePeekMessage p ops s).1 := by
  unfold servePeekMessage
  split <;> exact .refl s

theorem serveAck_keepsMap : s.KeepsMap (serveAck p ops s).1 := by
  unfold serveAck
  split
  · exact .refl s
  · split
    · exact .refl s
    · split
      · exact .refl s
      · exact (s.setAckList_keepsMap _ _).trans (State.raise_keepsMap _ _ _ _)

theorem serveTakeEvent_keepsMap : s.KeepsMap (serveTakeEvent p ops s).1 := by
  unfold serveTakeEvent
  simp only
  split
  · exact s.setQueue_keepsMap _ _
  · exact s.setQueue_keepsMap _ _
  · exact .refl s

theorem serveSetMask_keepsMap : s.KeepsMap (serveSetMask p ops s).1 :=
  .ite_fst (.refl s) (s.setQueue_keepsMap _ _)

/-- No request changes the role sets of the map in force, unless READ STATUS takes a commit that is due (R37, R41). -/
theorem serve_keepsMap (r : Request) : s.KeepsMap (serve r p ops s).1 := by
  cases r with
  | join => exact serveJoin_keepsMap p ops s
  | leave => exact serveLeave_keepsMap p ops s
  | detach => exact serveDetach_keepsMap p ops s
  | renew => exact serveRenew_keepsMap p ops s
  | readStatus => exact serveReadStatus_keepsMap p ops s
  | readFrame => exact .refl s
  | readIdentity => exact .refl s
  | claimCoordinator => exact serveClaimCoordinator_keepsMap p ops s
  | resign => exact serveResign_keepsMap p ops s
  | setTiming => exact serveSetTiming_keepsMap p ops s
  | setLane => exact serveSetLane_keepsMap p ops s
  | setLease => exact serveSetLease_keepsMap p ops s
  | evict => exact serveEvict_keepsMap p ops s
  | forceRelease => exact serveForceRelease_keepsMap p ops s
  | claimSlot => exact serveClaimSlot_keepsMap p ops s
  | releaseSlot => exact serveReleaseSlot_keepsMap p ops s
  | subscribe => exact serveSubscribe_keepsMap p ops s
  | unsubscribe => exact serveUnsubscribe_keepsMap p ops s
  | withdraw => exact serveWithdraw_keepsMap p ops s
  | listChanges => exact .refl s
  | readMap => exact serveReadMap_keepsMap p ops s
  | publish => exact servePublish_keepsMap p ops s
  | readSlot => exact serveReadSlot_keepsMap p ops s
  | drainRing => exact serveDrainRing_keepsMap p ops s
  | setWatermark => exact serveSetWatermark_keepsMap p ops s
  | post => exact servePost_keepsMap p ops s
  | cancel => exact serveCancel_keepsMap p ops s
  | takeMessage => exact serveTakeMessage_keepsMap p ops s
  | peekMessage => exact servePeekMessage_keepsMap p ops s
  | ack => exact serveAck_keepsMap p ops s
  | queueStatus => exact .refl s
  | takeEvent => exact serveTakeEvent_keepsMap p ops s
  | setMask => exact serveSetMask_keepsMap p ops s

end

/-! ### The ports -/

theorem State.readyFor_keepsMap (s : State) (r : Request) : s.KeepsMap (s.readyFor r) := by
  refine .trans s.closeLane_keepsMap (.ite ?_ (.refl _))
  exact (State.dropWork_keepsMap _ _).trans (State.raiseTimings_keepsMap _)

theorem State.takeRequest_keepsMap (s : State) (p : Station) (good : Bool) (code : Byte) (n : Nat) (ops : List Byte) :
    s.KeepsMap (s.takeRequest p good code n ops).1 := by
  unfold State.takeRequest
  split
  · exact .refl s
  · next r _ =>
    have hfirst : s.KeepsMap (s.countdownFirst p r) := .ite (s.takeWork_keepsMap _) (.refl s)
    have hready := hfirst.trans (State.readyFor_keepsMap _ r)
    simp only
    split
    · exact hfirst
    · split
      · exact hfirst.trans (serve_keepsMap p ops _ r)
      · exact hready.trans (serve_keepsMap p ops _ r)

theorem State.receiveByte_keepsMap (s : State) (p : Station) (b : Byte) : s.KeepsMap (s.receiveByte p b) := by
  unfold State.receiveByte
  simp only
  split
  · exact s.setPort_keepsMap _ _
  · exact s.setPort_keepsMap _ _
  · exact s.setPort_keepsMap _ _
  · exact (s.takeRequest_keepsMap _ _ _ _ _).trans (State.setPort_keepsMap _ _ _)
  · exact .refl s

theorem State.clockBit_keepsMap (s : State) (p : Station) (b : Bool) : s.KeepsMap (s.clockBit p b) := by
  unfold State.clockBit
  simp only
  cases (s.ports.get p).phase with
  | code | length | operands | check => exact .ite (s.setPort_keepsMap _ _) (s.receiveByte_keepsMap _ _)
  | response => exact s.setPort_keepsMap _ _
  | idle | trailing | overrun => exact .refl s

theorem State.clockBits_keepsMap (s : State) (p : Station) (l : List Bool) : s.KeepsMap (s.clockBits p l) :=
  .foldl (fun t b => t.clockBit_keepsMap p b) l s

/-! ## Boundaries -/

/-- t is reached from s with k boundaries made. The role sets stay if no commit was due and none of the frame numbers reached
is an epoch boundary's: then no commit has fallen due either (R3, R41). -/
structure State.Passes (k : Nat) (s t : State) : Prop where
  law   : s.mapLaw → t.mapLaw
  frame : t.timer.frame.toNat = (s.timer.frame.toNat + k) % 2 ^ 32
  sets  : Work.commit ∉ s.due → (∀ j, 1 ≤ j → j ≤ k → (s.timer.frame.toNat + j) % 16 ≠ 0) →
    Work.commit ∉ t.due ∧ roleSets t.slotMap = roleSets s.slotMap

/-- t is reached from s with at most n boundaries made. -/
def State.PassesUpTo (n : Nat) (s t : State) : Prop := ∃ k ≤ n, State.Passes k s t

theorem State.KeepsMap.passes {s t : State} (h : s.KeepsMap t) : State.Passes 0 s t :=
  ⟨h.law, by rw [h.frame]; omega, fun hc _ => ⟨hc ∘ h.commit, h.sets hc⟩⟩

theorem State.Passes.trans {k l : Nat} {s t u : State} (h : State.Passes k s t) (h' : State.Passes l t u) :
    State.Passes (k + l) s u := by
  have hframe := h.frame
  refine ⟨h'.law ∘ h.law, by rw [h'.frame, hframe]; omega, fun hc hno => ?_⟩
  obtain ⟨hct, hst⟩ := h.sets hc fun j h1 hj => hno j h1 (by omega)
  obtain ⟨hcu, htu⟩ := h'.sets hct fun j h1 hj => by
    have hj := hno (k + j) (by omega) (by omega)
    omega
  exact ⟨hcu, htu.trans hst⟩

namespace State.PassesUpTo

theorem of_keepsMap {n : Nat} {s t : State} (h : s.KeepsMap t) : State.PassesUpTo n s t := ⟨0, Nat.zero_le n, h.passes⟩

theorem trans {n m : Nat} {s t u : State} (h : State.PassesUpTo n s t) (h' : State.PassesUpTo m t u) :
    State.PassesUpTo (n + m) s u := by
  obtain ⟨k, hk, h⟩ := h
  obtain ⟨l, hl, h'⟩ := h'
  exact ⟨k + l, Nat.add_le_add hk hl, h.trans h'⟩

theorem after {n : Nat} {s t u : State} (h : s.KeepsMap t) (h' : State.PassesUpTo n t u) : State.PassesUpTo n s u :=
  n.zero_add ▸ (of_keepsMap h : State.PassesUpTo 0 s t).trans h'

theorem followed {n : Nat} {s t u : State} (h : State.PassesUpTo n s t) (h' : t.KeepsMap u) : State.PassesUpTo n s u :=
  h.trans (of_keepsMap h' : State.PassesUpTo 0 t u)

theorem ite {n : Nat} {s a b : State} {c : Prop} [Decidable c] (ha : State.PassesUpTo n s a)
    (hb : State.PassesUpTo n s b) : State.PassesUpTo n s (if c then a else b) := by split <;> assumption

end State.PassesUpTo

theorem State.announceTiming_keepsMap (s : State) : s.KeepsMap s.announceTiming := .of_eq rfl rfl rfl

theorem State.raiseTiming_keepsMap (s : State) : s.KeepsMap s.raiseTiming := s.raiseAll_keepsMap _ _

theorem State.setTimer_keepsMap (s : State) {t : Timer} (h : t.frame = s.timer.frame) : s.KeepsMap (s.setTimer t) :=
  .of_eq rfl h rfl

theorem Timer.apply_frame (t : Timer) (r : TimingRecord) : (t.apply r).frame = t.frame := by
  unfold Timer.apply
  split <;> rfl

theorem Timer.fault_frame (t : Timer) : t.fault.frame = t.frame := by
  unfold Timer.fault
  split <;> rfl

/-- A pending timing record changes the period and the mode, not the frame number (R14). -/
theorem State.applyPendingTiming_keepsMap (s : State) : s.KeepsMap s.applyPendingTiming := by
  unfold State.applyPendingTiming
  split
  · exact .refl s
  · refine .ite (s.setTimer_keepsMap rfl) ?_
    exact (s.setTimer_keepsMap (Timer.apply_frame _ _)).trans (State.announceTiming_keepsMap _)

theorem commit_mem_boundaryWorks (epoch : Bool) : Work.commit ∈ boundaryWorks epoch ↔ epoch = true := by
  cases epoch <;> decide

/-- A boundary raises the frame number by one, and the commit falls due where that makes an epoch boundary (R2, R3, R41). -/
theorem State.makeBoundary_passes (s : State) (announce : Bool) : State.Passes 1 s (s.makeBoundary announce) := by
  have hsettled := s.settle_keepsMap
  unfold State.makeBoundary
  generalize s.settle = u at hsettled
  extract_lets s0 settings s1 s2 s3
  have hpending : s1.KeepsMap s3 := by
    have hannounced : s1.KeepsMap s2 := .ite s1.announceTiming_keepsMap (.refl s1)
    exact .ite (hannounced.trans s2.applyPendingTiming_keepsMap) hannounced
  have hframe : s1.timer.frame.toNat = (s.timer.frame.toNat + 1) % 2 ^ 32 := by
    show (u.timer.frame + 1).toNat = _
    rw [hsettled.frame, BitVec.toNat_add]
    rfl
  refine ⟨fun h => hpending.law (hsettled.law h), (congrArg BitVec.toNat hpending.frame).trans hframe, fun hc hno => ?_⟩
  constructor
  · have hepoch : s1.timer.atEpoch = false := by
      have hfirst := hno 1 le_rfl le_rfl
      simp only [Timer.atEpoch, hframe, Config.epochLength, beq_eq_false_iff_ne]
      omega
    rw [State.setDue_due, commit_mem_boundaryWorks, hepoch]
    decide
  · exact (hpending.sets (hc ∘ hsettled.commit)).trans (hsettled.sets hc)

theorem State.makeBoundary_passesUpTo (s : State) (announce : Bool) : State.PassesUpTo 1 s (s.makeBoundary announce) :=
  ⟨1, le_rfl, s.makeBoundary_passes announce⟩

theorem State.internalTimer_passesUpTo (s : State) : State.PassesUpTo 1 s s.internalTimer := by
  unfold State.internalTimer
  split
  · exact .of_keepsMap (.refl s)
  · refine .after ?_ (State.makeBoundary_passesUpTo _ _)
    exact s.setTimer_keepsMap rfl

theorem State.substitute_passesUpTo (s : State) : State.PassesUpTo 1 s s.substitute := by
  unfold State.substitute
  split
  · refine .after ?_ (State.makeBoundary_passesUpTo _ _)
    exact s.setTimer_keepsMap (Timer.fault_frame _)
  · exact .of_keepsMap (.refl s)

theorem State.ownBoundary_passesUpTo (s : State) : State.PassesUpTo 1 s s.ownBoundary := by
  unfold State.ownBoundary
  split
  · exact s.substitute_passesUpTo
  · exact s.internalTimer_passesUpTo

/-! ## FREF edges -/

theorem State.badLockedEdge_passesUpTo (s : State) : State.PassesUpTo 1 s s.badLockedEdge := by
  have hfault := s.setTimer_keepsMap s.timer.fault_frame
  have hlost := hfault.trans (State.raiseTiming_keepsMap _)
  exact .ite (.ite (.after hlost (State.makeBoundary_passesUpTo _ _)) (.of_keepsMap hlost)) (.of_keepsMap hfault)

theorem State.goodLockedEdge_passesUpTo (s : State) : State.PassesUpTo 1 s s.goodLockedEdge := by
  have hgood := s.setTimer_keepsMap (t := { s.timer with faultCount := 0, anchor := s.timer.now }) rfl
  exact .ite (.after hgood (State.makeBoundary_passesUpTo _ _)) (.of_keepsMap hgood)

theorem State.lockEdge_passesUpTo (s : State) : State.PassesUpTo 1 s s.lockEdge := by
  have hlock := s.setTimer_keepsMap
    (t := { s.timer with refState := .locked, goodCount := 0, faultCount := 0, anchor := s.timer.now }) rfl
  exact .ite (.after hlock (State.makeBoundary_passesUpTo _ _)) (.of_keepsMap (hlock.trans (State.raiseTiming_keepsMap _)))

theorem State.judgedEdge_passesUpTo (s : State) (interval : Nat) : State.PassesUpTo 1 s (s.judgedEdge interval) := by
  have hjudged := s.setTimer_keepsMap (t := { s.timer with lastInterval := interval, prevEdge := some s.timer.now }) rfl
  refine .after hjudged ?_
  unfold State.judgedEdge
  simp only
  split
  · exact .ite (State.goodLockedEdge_passesUpTo _) (State.badLockedEdge_passesUpTo _)
  · refine .ite (.ite (.of_keepsMap ?_) (State.lockEdge_passesUpTo _)) (.of_keepsMap ?_)
    · exact State.setTimer_keepsMap _ rfl
    · exact State.setTimer_keepsMap _ rfl

/-- An edge makes one boundary at most (R8 to R10). -/
theorem State.edge_passesUpTo (s : State) : State.PassesUpTo 1 s s.edge := by
  unfold State.edge
  split
  · exact .of_keepsMap (.refl s)
  · refine .after (s.closeLane_keepsMap.trans (State.takeWork_keepsMap _ .timing)) ?_
    simp only
    split
    · exact .of_keepsMap (State.setTimer_keepsMap _ rfl)
    · exact State.judgedEdge_passesUpTo _ _

/-! ## The passing of time -/

theorem State.passTo_keepsMap (s : State) (i : Nat) : s.KeepsMap (s.passTo i) := by
  refine s.settle_keepsMap.trans ?_
  unfold State.passTo
  generalize s.settle = u
  exact u.setTimer_keepsMap rfl

theorem State.advance_passesUpTo (k i : Nat) (s : State) : State.PassesUpTo k s (State.advance k i s) := by
  induction k generalizing s with
  | zero => exact .of_keepsMap (s.passTo_keepsMap i)
  | succ k ih =>
    refine .ite ?_ (.of_keepsMap (s.passTo_keepsMap i))
    rw [Nat.add_comm]
    exact s.ownBoundary_passesUpTo.trans (ih _)

/-- No more boundaries than microseconds pass. -/
theorem State.elapse_passesUpTo (s : State) (us : Nat) : State.PassesUpTo us s (s.elapse us) :=
  .ite (.of_keepsMap (.refl s)) (State.advance_passesUpTo us _ s)

theorem State.idle_passesUpTo (s : State) : State.PassesUpTo 1 s s.idle := by
  unfold State.idle
  split
  · exact .of_keepsMap (s.takeWork_keepsMap _)
  · exact .ite s.ownBoundary_passesUpTo (.of_keepsMap (s.passTo_keepsMap _))

/-! ## The commands -/

/-- The most boundaries that a command makes: on the way to an FREF edge the timer's own may fall (log entry 2). -/
def boundaryLimit : Instr → Nat
  | .frefEdge d _ => d + 1
  | _ => 1

theorem execInternalTimerRunsOut_passesUpTo (order : List Work) (s : State) :
    ∃ t, execInternalTimerRunsOut order s = .next t ∧ State.PassesUpTo 1 s t :=
  ⟨_, rfl, .ite (.of_keepsMap (.refl s)) (s.internalTimer_passesUpTo.followed (State.takeWorks_keepsMap _ _))⟩

theorem execSubstituteDeadline_passesUpTo (order : List Work) (s : State) :
    ∃ t, execSubstituteDeadline order s = .next t ∧ State.PassesUpTo 1 s t :=
  ⟨_, rfl, .ite (s.substitute_passesUpTo.followed (State.takeWorks_keepsMap _ _)) (.of_keepsMap (.refl s))⟩

theorem execFrefEdge_passesUpTo (d : Nat) (order : List Work) (s : State) :
    ∃ t, execFrefEdge d order s = .next t ∧ State.PassesUpTo (d + 1) s t :=
  ⟨_, rfl, ((s.elapse_passesUpTo d).trans (State.edge_passesUpTo _)).followed (State.takeWorks_keepsMap _ _)⟩

theorem execLaneGrant_passesUpTo (s : State) : ∃ t, execLaneGrant s = .next t ∧ State.PassesUpTo 1 s t :=
  ⟨_, rfl, .of_keepsMap (.ite (s.laneToArbitration_keepsMap.trans (State.laneArbitrate_keepsMap _)) (.refl s))⟩

theorem execHoldExpired_passesUpTo (s : State) : ∃ t, execHoldExpired s = .next t ∧ State.PassesUpTo 1 s t := by
  refine ⟨_, rfl, .of_keepsMap ?_⟩
  split
  · exact .ite (s.laneToHold_keepsMap.trans (State.laneHoldCount_keepsMap _ _)) (.refl s)
  · exact .refl s

/-- Every command but HUB_RESET makes at most its number of boundaries, and without an epoch's commit keeps the role sets
(R41). -/
theorem exec_passesUpTo (c : Instr) (s : State) (hreset : ∀ k, c ≠ .hubReset k) :
    ∃ t, exec c s = .next t ∧ State.PassesUpTo (boundaryLimit c) s t := by
  cases c with
  | hubReset k => exact absurd rfl (hreset k)
  | internalTimerRunsOut l => exact execInternalTimerRunsOut_passesUpTo l s
  | frefEdge d l => exact execFrefEdge_passesUpTo d l s
  | substituteDeadline l => exact execSubstituteDeadline_passesUpTo l s
  | leaseExpiry n => exact ⟨_, rfl, .of_keepsMap (.ite (s.takeWork_keepsMap _) (.refl s))⟩
  | endOfLeaving n => exact ⟨_, rfl, .of_keepsMap (.ite (s.takeWork_keepsMap _) (.refl s))⟩
  | transferDelivery => exact ⟨_, rfl, .of_keepsMap (.ite s.laneTransferStep_keepsMap (.refl s))⟩
  | laneGrant => exact execLaneGrant_passesUpTo s
  | holdExpired => exact execHoldExpired_passesUpTo s
  | ackTimeout => exact ⟨_, rfl, .of_keepsMap (.ite (s.takeWork_keepsMap _) (.refl s))⟩
  | selectionStart p => exact ⟨_, rfl, .of_keepsMap (s.setPort_keepsMap _ _)⟩
  | selectionEnd p sdi =>
    exact ⟨_, rfl, .of_keepsMap ((s.clockBits_keepsMap p sdi).trans (State.setPort_keepsMap _ _ _))⟩
  | selectionOverrun p sdi =>
    exact ⟨_, rfl, .of_keepsMap ((s.clockBits_keepsMap p sdi).trans (State.setPort_keepsMap _ _ _))⟩
  | _ => exact ⟨_, rfl, .of_keepsMap (s.clockBits_keepsMap _ _)⟩

/-- After a hub reset the map is empty (R42). -/
theorem State.afterReset_mapLaw (s : State) (cause : ResetCause) : (s.afterReset cause).mapLaw := by
  refine ⟨List.length_replicate, fun e he => ?_, fun n => ?_⟩
  · rw [List.eq_of_mem_replicate he]
    exact emptyEntry_law
  · show producerCount (List.replicate 48 emptyEntry) n ≤ 16
    simp [producerCount, SlotEntry.producedBy, emptyEntry]

/-- A step with no hub reset makes one boundary at most, but for those that an FREF edge finds on its way. -/
theorem step_passesUpTo (s t : State) (h : step s = .next t) (hreset : ∀ k, s.pending.head? ≠ some (.hubReset k)) :
    ∃ n, State.PassesUpTo n s t ∧ (n = 1 ∨ ∃ d order, s.pending.head? = some (.frefEdge d order) ∧ n = d + 1) := by
  unfold step at h
  split at h
  · next hempty =>
    obtain rfl := Host.Outcome.next.inj h
    exact ⟨1, s.idle_passesUpTo, .inl rfl⟩
  · next c rest hfront =>
    simp only [hfront, List.head?_cons] at hreset ⊢
    obtain ⟨u, hu, hpasses⟩ := exec_passesUpTo c { s with pending := rest } fun k hk => hreset k (congrArg some hk)
    obtain rfl := Host.Outcome.next.inj (hu.symm.trans h)
    have hpopped : s.KeepsMap { s with pending := rest } := .of_eq rfl rfl rfl
    refine ⟨boundaryLimit c, .after hpopped hpasses, ?_⟩
    cases c with
    | frefEdge d order => exact .inr ⟨d, order, rfl, rfl⟩
    | _ => exact .inl rfl

/-- Every step keeps the law of the active map (R38, R39). -/
theorem step_mapLaw (s t : State) (hlaw : s.mapLaw) (h : step s = .next t) : t.mapLaw := by
  by_cases hreset : ∃ k, s.pending.head? = some (.hubReset k)
  · obtain ⟨cause, hfront⟩ := hreset
    obtain ⟨rest, hpending⟩ := List.head?_eq_some_iff.mp hfront
    simp only [step, hpending] at h
    obtain rfl := Host.Outcome.next.inj h
    exact State.afterReset_mapLaw _ cause
  · obtain ⟨_, ⟨_, -, hpasses⟩, -⟩ := step_passesUpTo s t h fun k hk => hreset ⟨k, hk⟩
    exact hpasses.law hlaw

/-- Fewer than 2^32 boundaries are counted by the difference of the frame numbers. -/
theorem State.Passes.count {k : Nat} {s t : State} (h : State.Passes k s t) (hk : k < 2 ^ 32) :
    (t.timer.frame - s.timer.frame).toNat = k := by
  have hframe := h.frame
  have hs := s.timer.frame.isLt
  rw [BitVec.toNat_sub, hframe]
  omega

/-- Settles O54: the relation `State.Passes` says of a step how many boundaries it makes, that the law of the map is kept,
and that without a commit due and without an epoch boundary the role sets stay. -/
theorem stepKeepsTheMapLaw : Obligations.StepKeepsTheMapLaw := by
  refine ⟨step_mapLaw, fun s t h hcommit hreset hfref hepoch => ?_⟩
  obtain ⟨n, ⟨k, hk, hpasses⟩, hn⟩ := step_passesUpTo s t h hreset
  have hlimit : k < 2 ^ 32 := by
    rcases hn with rfl | ⟨d, order, hfront, rfl⟩
    · omega
    · have hd := hfref d order hfront
      omega
  rw [hpasses.count hlimit] at hepoch
  exact (hpasses.sets hcommit hepoch).2

end Sys2Proof.Machine
end

section
/-! SUPPORT. What the event block does with one record: the three rows of R152's table for a queue, and whether a station's
state lets the record reach its queue (R151), which settles O45. -/

namespace Sys2Proof.Machine

/-! ## Appending to a queue (R152) -/

theorem EventQueue.append_of_room {q : EventQueue} (r : EventRecord) (hlost : q.lost = none)
    (hroom : q.records.length < Config.ordinaryCapacity) : q.append r = { q with records := q.records ++ [r] } := by
  simp only [EventQueue.append, hlost, if_pos hroom]

theorem EventQueue.append_of_full {q : EventQueue} (r : EventRecord) (hlost : q.lost = none)
    (hfull : Config.ordinaryCapacity ≤ q.records.length) :
    q.append r = { q with lost := some { stamp := r.stamp, count := 1 } } := by
  simp only [EventQueue.append, hlost, if_neg hfull.not_gt]

theorem EventQueue.append_of_lost {q : EventQueue} (r : EventRecord) {x : LostEvents} (hlost : q.lost = some x) :
    q.append r = { q with lost := some { x with count := min Config.saturation (x.count + 1) } } := by
  simp only [EventQueue.append, hlost]

/-! ## Raising to one station (R151) -/

theorem State.raise_of_present {s : State} {n : Station} (hn : s.present n = true) (st : Stamp) (e : Event) :
    s.raise n st e = s.setQueue n ((s.events.get n).append { stamp := st, event := e }) := if_pos hn

theorem State.raise_of_not_present {s : State} {n : Station} (hn : s.present n = false) (st : Stamp) (e : Event) :
    s.raise n st e = s := if_neg (Bool.eq_false_iff.mp hn)

/-- Settles O45: the station's state decides whether the record is appended (R151), and for a member the lost-events record
and the number of ordinary records decide how (R152); no case asks for the mask. -/
theorem recordsAreQueuedCountedOrDiscarded : Obligations.RecordsAreQueuedCountedOrDiscarded := by
  intro s n st e
  refine ⟨fun hn => ?discarded, fun hn hlost hroom => ?queued, fun hn hlost hfull => ?firstLost, fun x hn hlost => ?counted⟩
  case discarded => exact State.raise_of_not_present hn st e
  case queued => rw [State.raise_of_present hn, EventQueue.append_of_room _ hlost (Nat.lt_succ_of_le hroom)]
  case firstLost => rw [State.raise_of_present hn, EventQueue.append_of_full _ hlost hfull]
  case counted => rw [State.raise_of_present hn, EventQueue.append_of_lost _ hlost]

end Sys2Proof.Machine
end

section
/-! SUPPORT. READ IDENTITY on its way through the hub: no registry check refuses it, no work is taken ahead of it, and its
reply is one value, which settles O50. -/

namespace Sys2Proof.Machine

/-! ## The registry's checks (R20, R32) -/

theorem requesterRefusal_readIdentity (st : StationState) : requesterRefusal st .readIdentity = none := by
  cases st <;> rfl

theorem State.registryRefusal_readIdentity (s : State) (p : Station) : s.registryRefusal p .readIdentity = none := by
  rw [State.registryRefusal, requesterRefusal_readIdentity]
  rfl

/-! ## The answer (R173) -/

/-- Vendor code, part code and design revision as the manual gives them, high byte first. -/
def identityReply : Reply := { status := .ok, results := [0x2E, 0x17, 0x01, 0xB4, 0x01] }

theorem serveReadIdentity_eq (p : Station) (ops : List Byte) (s : State) :
    serveReadIdentity p ops s = (s, identityReply) := rfl

/-- READ IDENTITY reaches no block: neither a countdown nor work begun is taken ahead of it. -/
theorem State.answerTo_readIdentity (s : State) (p : Station) (ops : List Byte) :
    s.answerTo p .readIdentity ops = (s, identityReply) := by
  have hfirst : s.countdownFirst p .readIdentity = s := s.countdownFirst_of_ne p .readIdentity (by decide)
  simp only [State.answerTo, hfirst, State.registryRefusal_readIdentity, if_true]
  exact serveReadIdentity_eq p ops s

/-! ## The bytes of the exchange (R161, R165) -/

theorem frameBytes_requestFrame_nil (code : Byte) :
    frameBytes code (requestFrame code []) = [code, 0x00, crc [code, 0x00]] := by
  have hlength : byte ([] : List Byte).length = 0x00 := rfl
  simp only [frameBytes, requestFrame, hlength, List.nil_append]

theorem respond_identityReply : respond identityReply =
    { status := 0x00, length := 0x05, results := [0x2E, 0x17, 0x01, 0xB4, 0x01],
      check := crc [0x00, 0x05, 0x2E, 0x17, 0x01, 0xB4, 0x01], position := 0 } := by
  have hstatus : identityReply.status.code = 0x00 := rfl
  have hlength : byte identityReply.results.length = 0x05 := rfl
  simp only [respond, hstatus, hlength]
  simp only [identityReply]

@[simp] theorem State.replied_response (s : State) (p : Station) (code : Byte) (ops : List Byte) (reply : Reply) :
    ((s.replied p code ops reply).ports.get p).response = some (respond reply) := by
  simp only [State.replied, State.setPort_ports, PerStation.get_set_same, Port.replied]

/-- Settles O50: the registry refuses READ IDENTITY from no state and the request is served on the state as it stands, so
the port alone changes; the bytes are those of the frame and of the response to the one reply. -/
theorem readIdentityAnswersTheFixedValues : Obligations.ReadIdentityAnswersTheFixedValues := by
  intro s p hselected
  have hanswered := exec_request s p .readIdentity [] hselected rfl
  rw [State.answerTo_readIdentity] at hanswered
  refine ⟨s.replied p 0x07 [] identityReply, hanswered, rfl, frameBytes_requestFrame_nil 0x07, ?_⟩
  rw [State.replied_response, respond_identityReply]

end Sys2Proof.Machine
end

section
/-! SUPPORT. What a step can do, said once: every command is a chain of named updates of one block each, with what the model
guarantees where it makes them, and of the three changes of membership. An invariant is then proved update by update. -/

namespace Sys2Proof.Machine

/-! ## Names for what the updates keep -/

/-- The message without its hold count, which alone changes while it waits (R128). -/
def Message.unheld (m : Message) : Message := { m with hold := 0 }

/-- What of an acknowledgement entry stays while it stands (R138, R141 to R144). -/
def AckEntry.identity (a : AckEntry) : Byte × Station := (a.seq, a.dest)

/-- The ring with an entry appended, or dropped and counted (R96). -/
def Ring.logged (r : Ring) (e : RingEntry) : Ring :=
  if r.entries.length < Config.ringCapacity then { r with entries := r.entries ++ [{ e with gap := r.gap }], gap := 0 }
  else { r with gap := saturatingSucc r.gap }

/-- No TIMING waits while its arrival is still due: it has come, or there was none (R17). -/
def State.timingCome (s : State) : Prop := Work.timing ∈ s.due → s.timings = PerStation.all []

/-! ## The updates -/

/-- One update of one block, with the conditions under which the model makes it. -/
inductive State.Update : State → State → Prop
  | port (s : State) (p : Station) (q : Port) : Update s (s.setPort p q)
  | retime (s : State) (t : Timer) (hlaw : s.timer.law → t.law) : Update s (s.setTimer t)
  | timings (s : State) : Update s (s.dropWork .timing).raiseTimings
  | drop (s : State) (w : Work) (hlane : w ≠ .lane) (htiming : w ≠ .timing) : Update s (s.dropWork w)
  | raise (s : State) (n : Station) (st : Stamp) (e : Event) : Update s (s.raise n st e)
  | queue (s : State) (p : Station) (q : EventQueue) (hin : s.present p = true) (hlaw : (s.events.get p).law → q.law) :
      Update s (s.setQueue p q)
  | emptyQueue (s : State) (n : Station) : Update s (s.emptyQueue n)
  | join (s : State) (p : Station) (name : Name) (hout : s.present p = false) (hname : s.nameHeld p name = false) :
      Update s (s.setStation p ((s.station p).joining name s.registry.leaseSetting s.timer.frame))
  | renew (s : State) (p : Station) (tok : Byte) (hin : s.joined p = true) :
      Update s (s.setStation p { s.station p with
        token := tok, leasePeriod := s.registry.leaseSetting, leaseCounter := s.registry.leaseSetting })
  | lease (s : State) (n : Station) (k : Nat) (hin : s.joined n = true) (hpos : 1 ≤ k)
      (hle : k ≤ (s.station n).leaseCounter) : Update s (s.setStation n { s.station n with leaseCounter := k })
  | seq (s : State) (p : Station) (b : Byte) (hin : s.joined p = true) :
      Update s (s.setStation p { s.station p with seqCounter := b })
  | coordinator (s : State) (c : Option Station) (hin : ∀ n ∈ c, s.joined n = true) : Update s (s.setCoordinator c)
  | setting (s : State) (k : Nat) (hmin : 8 ≤ k) (hmax : k ≤ 255) :
      Update s (s.setRegistry { s.registry with leaseSetting := k })
  | flags (s : State) (n : Station) (gone : Bool) :
      Update s (s.setSlotMap (s.slotMap.map (SlotEntry.raiseFlags n gone)))
  | removals (s : State) :
      Update s ((s.setSlotMap (s.slotMap.map SlotEntry.removeDue)).setSlots
        (s.slots.zipIdx.map (fun x => if (s.entry x.2).producerDue then clearedSlot s.stamp else x.1)))
  | change (s : State) (c : Change) (hc : c ∈ s.changes) (hok : c.check s.slotMap = .ok) :
      Update s ((s.setSlotMap (c.onMap s.slotMap)).setSlots (c.onSlots s.stamp s.slots))
  | fewerChanges (s : State) (l : List Change) (hl : l.Sublist s.changes) : Update s (s.setChanges l)
  | stage (s : State) (o : Option Station) (k : ChangeKind) (j : Nat) (hroom : s.stagingRefusal o = none) (hj : j < 48)
      (hk : o = none ↔ k = .forceRelease) (hin : ∀ n ∈ o, s.joined n = true) : Update s (s.stage o k j)
  | latchSlot (s : State) (k : Nat) : Update s (s.setSlot k (latchedSlot (s.entry k) s.stamp (s.slot k)))
  | publish (s : State) (x : Nat × Word) : Update s (s.setSlots (writePair s.slots x))
  | log (s : State) (n : Station) (e : RingEntry) (hslot : e.slot < 48)
      (hlive : ∃ x ∈ s.slotMap, x.liveConsumer n = true) : Update s (s.setRing n ((s.rings.get n).logged e))
  | drain (s : State) (p : Station) (k : Nat) (hin : s.present p = true) :
      Update s (s.setRing p { s.rings.get p with entries := (s.rings.get p).entries.drop k })
  | watermark (s : State) (p : Station) (k : Nat) (hin : s.present p = true) (hmin : 1 ≤ k) (hmax : k ≤ 63) :
      Update s (s.setRing p { s.rings.get p with watermark := k })
  | clearRing (s : State) (n : Station) : Update s (s.setRing n emptyRing)
  | settings (s : State) : Update s (s.setLane s.lane.withSettings)
  | arbitration (s : State) (hdue : Work.lane ∈ s.due) : Update s (s.setLane { s.lane with phase := .arbitration })
  | judged (s : State) (b : List (Station × MsgClass)) (hphase : s.lane.phase = .arbitration) :
      Update s (s.setLane { s.lane with phase := .holdCount b })
  | laneDone (s : State) : Update s s.laneDone
  | moveBytes (s : State) (t : Transfer) (b : Nat) (ht : s.lane.transfer = some t) (hb : b < t.remaining) :
      Update s (s.setLane { s.lane with transfer := some { t with remaining := t.remaining - b } })
  | arrive (s : State) (t : Transfer) (d : Option Station) (ht : s.lane.transfer = some t) :
      Update s (s.setLane { s.lane with rx := s.lane.withCopies t s.stamp, transfer := none, deferred := d })
  | grant (s : State) (n : Station) (cls : MsgClass) (m : Message) (rest : List Message)
      (hq : s.lane.queue n cls = m :: rest) (hel : s.eligible n cls = true) (d : Option Station) :
      Update s (s.setLane { s.lane.setTxQueue n cls rest with
        transfer := some { msg := m, dests := s.destinationsOf m, remaining := m.laneLength }, pointer := n
        deferred := d })
  | abandon (s : State) : Update s s.abandon
  | reserve (s : State) (t : Transfer) (l : List Station) (ht : s.lane.transfer = some t) (hl : l.Sublist t.dests) :
      Update s (s.setLane { s.lane with transfer := some { t with dests := l } })
  | fewerMessages (s : State) (n : Station) (cls : MsgClass) (q : List Message)
      (hq : (q.map Message.unheld).Sublist ((s.lane.queue n cls).map Message.unheld)) :
      Update s (s.setLane (s.lane.setTxQueue n cls q))
  | deferred (s : State) (d : Option Station) : Update s (s.setLane { s.lane with deferred := d })
  | receive (s : State) (n : Station) (q : List Copy) (hq : q.Sublist (s.lane.rx.get n)) :
      Update s (s.setLane { s.lane with rx := s.lane.rx.set n q })
  | pendingLane (s : State) (x : LaneSettings)
      (hx : 8 ≤ x.budget ∧ x.budget ≤ 64 ∧ 1 ≤ x.holdLimit ∧ x.holdLimit ≤ 255) :
      Update s (s.setLane { s.lane with pending := some x })
  | enqueue (s : State) (p : Station) (m : Message) (hin : s.joined p = true) (hsource : m.source = p) (hlaw : m.law)
      (hposted : m.posted = s.lane.nextPosted) (hroom : (s.lane.queue p m.cls).length < classCapacity m.cls) :
      Update s (s.setLane { s.lane.setTxQueue p m.cls (s.lane.queue p m.cls ++ [m]) with
        nextPosted := s.lane.nextPosted + 1 })
  | fewerAcks (s : State) (a : PerStation (List AckEntry))
      (ha : ∀ n, ((a.get n).map AckEntry.identity).Sublist ((s.acks.get n).map AckEntry.identity)) :
      Update s (s.setAcks a)
  | ackCreate (s : State) (n : Station) (q tag : Byte) (d : Station) (timeout : Nat) (hin : s.joined n = true)
      (hroom : (s.acks.get n).length < 4) (hfree : ∀ a ∈ s.acks.get n, a.seq ≠ q) (hd : d ≠ n) :
      Update s (s.ackCreate n q tag d timeout)

/-- Changes of a kind, one after another. -/
def State.Chain (R : State → State → Prop) : State → State → Prop := Relation.ReflTransGen R

namespace State.Chain

variable {R : State → State → Prop}

theorem refl {s : State} : State.Chain R s s := Relation.ReflTransGen.refl

theorem one {s t : State} (h : R s t) : State.Chain R s t := Relation.ReflTransGen.single h

theorem trans {s t u : State} (h : State.Chain R s t) (k : State.Chain R t u) : State.Chain R s u :=
  Relation.ReflTransGen.trans h k

theorem mono {R' : State → State → Prop} (hR : ∀ s t, R s t → R' s t) {s t : State} (h : State.Chain R s t) :
    State.Chain R' s t := Relation.ReflTransGen.mono hR _ _ h

/-- What every change of the kind keeps, the chain keeps. -/
theorem keeps {P : State → Prop} (hP : ∀ s t, R s t → P s → P t) {s t : State} (h : State.Chain R s t) (hs : P s) : P t := by
  induction h with
  | refl => exact hs
  | tail _ hstep ih => exact hP _ _ hstep ih

theorem ite {s a b : State} {c : Prop} [Decidable c] (ha : c → State.Chain R s a) (hb : ¬ c → State.Chain R s b) :
    State.Chain R s (if c then a else b) := by
  split
  · next h => exact ha h
  · next h => exact hb h

theorem foldl {β : Type} {f : State → β → State} (h : ∀ t x, State.Chain R t (f t x)) (l : List β) (s : State) :
    State.Chain R s (l.foldl f s) := by
  induction l generalizing s with
  | nil => exact refl
  | cons x l ih => exact (h s x).trans (ih _)

/-- A fold whose every step keeps what the next ones need. -/
theorem foldl_keeping {β : Type} {f : State → β → State} (Q : State → Prop) (l : List β)
    (h : ∀ t, Q t → ∀ x ∈ l, State.Chain R t (f t x) ∧ Q (f t x)) :
    ∀ s, Q s → State.Chain R s (l.foldl f s) ∧ Q (l.foldl f s) := by
  induction l with
  | nil => exact fun s hs => ⟨refl, hs⟩
  | cons x l ih =>
    intro s hs
    obtain ⟨hx, hQ⟩ := h s hs x List.mem_cons_self
    obtain ⟨hl, hQl⟩ := ih (fun t ht y hy => h t ht y (List.mem_cons_of_mem _ hy)) _ hQ
    exact ⟨hx.trans hl, hQl⟩

end State.Chain

/-- Updates one after another. -/
abbrev State.Updates : State → State → Prop := State.Chain State.Update

/-- A station that departs has the record of R26 or R31. -/
def StationState.gone (x : StationState) : Prop := x = .absent ∨ x = .lapsed

/-- An update, or a change of membership that reaches every block at once: the states within it are no states of the hub. -/
inductive State.Move : State → State → Prop
  | update {s t : State} (h : State.Update s t) : Move s t
  | depart (s : State) (n : Station) (x : StationState) (c : Cause) (st : Stamp) (hx : x.gone) :
      Move s (s.depart n x c st)
  | leave (s : State) (n : Station) (st : Stamp) (hin : s.joined n = true) (hcome : s.timingCome) : Move s (s.leave n st)
  | endLeaving (s : State) (n : Station) (st : Stamp) (hleaving : (s.station n).state = .leaving)
      (hquiet : s.lane.inFlightAt n = false) : Move s (s.endLeaving n st)

/-- Moves one after another. -/
abbrev State.Moves : State → State → Prop := State.Chain State.Move

theorem State.Updates.moves {s t : State} (h : State.Updates s t) : State.Moves s t := State.Chain.mono (fun _ _ => .update) h

/-- A move, or a frame boundary made once no TIMING waits. -/
inductive State.Act : State → State → Prop
  | move {s t : State} (h : State.Move s t) : Act s t
  | boundary (s : State) (made : Timer) (news : List Event) (hcome : s.timingCome) (hlaw : s.timer.law → made.law)
      (hnews : news.length ≤ 1) : Act s (s.atBoundary made news)

/-- Acts one after another. -/
abbrev State.Acts : State → State → Prop := State.Chain State.Act

theorem State.Moves.acts {s t : State} (h : State.Moves s t) : State.Acts s t := State.Chain.mono (fun _ _ => .move) h

/-! ## Records, rings, acknowledgement entries -/

theorem State.raiseAll_updates (s : State) (st : Stamp) (l : List (Station × Event)) : State.Updates s (s.raiseAll st l) :=
  .foldl (fun t (x : Station × Event) => .one (.raise t x.1 st x.2)) l s

/-- A ring entry is logged, with or without a record (R96, R98). -/
theorem State.appendRing_cases (s : State) (n : Station) (e : RingEntry) :
    s.appendRing n e = s.setRing n ((s.rings.get n).logged e) ∨
      ∃ x, s.appendRing n e = (s.setRing n ((s.rings.get n).logged e)).raise n e.stamp x := by
  unfold State.appendRing Ring.logged
  simp only
  split
  · split
    · exact .inr ⟨_, rfl⟩
    · exact .inl rfl
  · split
    · exact .inr ⟨_, rfl⟩
    · exact .inl rfl

theorem State.appendRing_slotMap (s : State) (n : Station) (e : RingEntry) : (s.appendRing n e).slotMap = s.slotMap := by
  rcases s.appendRing_cases n e with h | ⟨x, h⟩
  · rw [h]; rfl
  · rw [h, State.raise_eq]; rfl

theorem State.appendRing_updates (s : State) (n : Station) (e : RingEntry) (hslot : e.slot < 48)
    (hlive : ∃ x ∈ s.slotMap, x.liveConsumer n = true) : State.Updates s (s.appendRing n e) := by
  have hlog := State.Update.log s n e hslot hlive
  rcases s.appendRing_cases n e with h | ⟨x, h⟩
  · exact h ▸ .one hlog
  · exact h ▸ (State.Chain.one hlog).trans (.one (.raise _ n e.stamp x))

/-- The entry of a slot with a consumer stands in the map. -/
theorem State.entry_mem {s : State} {k : Nat} {c : Consumer} (h : c ∈ (s.entry k).consumers) : s.entry k ∈ s.slotMap := by
  by_cases hk : k < s.slotMap.length
  · rw [State.entry, List.getD_eq_getElem _ _ hk]
    exact List.getElem_mem hk
  · rw [State.entry, List.getD_eq_default _ _ (by omega)] at h
    simp [emptyEntry] at h

theorem State.latchOne_updates (s : State) (k : Nat) (hk : k < 48) :
    State.Updates s (s.latchOne k) ∧ (s.latchOne k).slotMap = s.slotMap := by
  unfold State.latchOne
  simp only
  obtain ⟨hlogged, hmap⟩ := State.Chain.foldl_keeping
    (f := fun t (c : Consumer) =>
      if c.live && logs c.mode (s.entry k) (latchedSlot (s.entry k) s.stamp (s.slot k)) then
        t.appendRing c.station (ringEntryOf k s.stamp (latchedSlot (s.entry k) s.stamp (s.slot k))) else t)
    (fun t => t.slotMap = s.slotMap) (s.entry k).consumers
    (fun t ht c hc => by
      split
      · next hlogs =>
        have hlive : (s.entry k).liveConsumer c.station = true := by
          rw [Bool.and_eq_true] at hlogs
          exact List.any_eq_true.mpr ⟨c, hc, by simp [hlogs.1]⟩
        exact ⟨t.appendRing_updates _ _ hk ⟨_, ht ▸ State.entry_mem hc, hlive⟩, by rw [State.appendRing_slotMap, ht]⟩
      · exact ⟨.refl, ht⟩)
    (s.setSlot k (latchedSlot (s.entry k) s.stamp (s.slot k))) rfl
  exact ⟨(State.Chain.one (.latchSlot s k)).trans hlogged, hmap⟩

theorem State.latch_updates (s : State) : State.Updates s s.latch :=
  (State.Chain.foldl_keeping (fun _ => True) slotNumbers
    (fun t _ k hk => ⟨(t.latchOne_updates k (List.mem_range.mp hk)).1, trivial⟩) s trivial).1

/-- One station's list without some entries, or with their states changed. -/
theorem State.setAckList_updates (s : State) (n : Station) (l : List AckEntry)
    (hl : (l.map AckEntry.identity).Sublist ((s.acks.get n).map AckEntry.identity)) :
    State.Updates s (s.setAckList n l) := by
  refine .one (.fewerAcks s (s.acks.set n l) fun m => ?_)
  rw [PerStation.get_set]
  split
  · next h => exact h ▸ hl
  · exact .refl _

theorem State.ackGone_updates (s : State) (m : Message) : State.Updates s (s.ackGone m) :=
  .ite (fun _ => s.setAckList_updates _ _ (List.filter_sublist.map _)) fun _ => .refl

/-- Entries whose state alone changes. -/
theorem map_identity_of_states {f : AckEntry → AckEntry} (hf : ∀ a, (f a).identity = a.identity) (l : List AckEntry) :
    (l.map f).map AckEntry.identity = l.map AckEntry.identity := by
  rw [List.map_map]
  exact List.map_congr_left fun a _ => hf a

theorem State.ackGranted_updates (s : State) (m : Message) : State.Updates s (s.ackGranted m) := by
  refine .ite (fun _ => s.setAckList_updates _ _ ?_) fun _ => .refl
  rw [map_identity_of_states fun a => by split <;> rfl]

theorem State.ackDelivered_updates (s : State) (m : Message) : State.Updates s (s.ackDelivered m) := by
  refine .ite (fun _ => s.setAckList_updates _ _ ?_) fun _ => .refl
  rw [map_identity_of_states fun a => by split <;> rfl]

theorem AckEntry.lowered_identity (st : Stamp) (a : AckEntry) : (a.lowered st).identity = a.identity := by
  unfold AckEntry.lowered
  split
  · split <;> rfl
  · rfl

theorem State.ackCountdown_updates (s : State) : State.Updates s s.ackCountdown := by
  refine .trans (.one (.fewerAcks s _ fun n => ?_)) (State.raiseAll_updates _ _ _)
  rw [PerStation.get_map, map_identity_of_states (AckEntry.lowered_identity _)]
  exact List.filter_sublist.map _

theorem State.ackResolve_updates (s : State) (x : Station) (st : Stamp) : State.Updates s (s.ackResolve x st) := by
  refine .trans (.one (.fewerAcks s _ fun n => ?_)) (State.raiseAll_updates _ _ _)
  rw [PerStation.get_map]
  split
  · exact .refl _
  · exact List.filter_sublist.map _

/-! ## The lane -/

theorem State.undeliverable_updates (s : State) (st : Stamp) (r : Reason) (m : Message) :
    State.Updates s (s.undeliverable st r m) := .trans (.one (.raise s _ _ _)) (State.ackGone_updates _ _)

theorem State.deliver_updates (s : State) (t : Transfer) (ht : s.lane.transfer = some t) :
    State.Updates s (s.deliver t) :=
  .trans (.trans (.one (.arrive s t _ ht)) (State.raiseAll_updates _ _ _)) (State.ackDelivered_updates _ _)

theorem Lane.withSettings_transfer (l : Lane) : l.withSettings.transfer = l.transfer := by
  unfold Lane.withSettings; split <;> rfl

theorem State.laneTransferStep_updates (s : State) (hdue : Work.lane ∈ s.due) : State.Updates s s.laneTransferStep := by
  unfold State.laneTransferStep
  refine .trans (.one (.settings s)) ?_
  simp only
  split
  · exact .one (.arbitration (s.setLane s.lane.withSettings) hdue)
  · next t ht =>
    refine .ite (fun _ => ?_) fun hb => ?_
    · have hdelivered := State.deliver_updates (s.setLane s.lane.withSettings) t ht
      refine hdelivered.trans (.one (.arbitration _ ?_))
      rw [State.deliver, State.ackDelivered, State.raiseAll_eq]
      split <;> exact hdue
    · refine .trans (.one (.moveBytes (s.setLane s.lane.withSettings) t _ ht (not_le.mp hb))) (.one (.laneDone _))

theorem State.winner_eligible {s : State} {x : Station × MsgClass} (h : s.winner = some x) :
    s.eligible x.1 x.2 = true := by
  unfold State.winner at h
  split at h
  · next hu => cases h; exact List.find?_some (p := fun n => s.eligible n .urgent) hu
  · obtain ⟨n, hn, rfl⟩ := Option.map_eq_some_iff.mp h
    exact List.find?_some (p := fun n => s.eligible n .normal) hn

theorem State.grant_updates (s : State) (n : Station) (cls : MsgClass) (hel : s.eligible n cls = true) :
    State.Updates s (s.grant n cls) := by
  unfold State.grant
  split
  · exact .refl
  · next m rest hq => exact .trans (.one (.grant s n cls m rest hq hel _)) (State.ackGranted_updates _ _)

theorem State.ackGranted_lane (s : State) (m : Message) : (s.ackGranted m).lane = s.lane := by
  unfold State.ackGranted; split <;> rfl

theorem Lane.setTxQueue_phase (l : Lane) (n : Station) (cls : MsgClass) (q : List Message) :
    (l.setTxQueue n cls q).phase = l.phase := by cases cls <;> rfl

theorem State.grant_phase (s : State) (n : Station) (cls : MsgClass) : (s.grant n cls).lane.phase = s.lane.phase := by
  unfold State.grant
  split
  · rfl
  · rw [State.ackGranted_lane]; exact Lane.setTxQueue_phase _ _ _ _

theorem State.laneArbitrate_updates (s : State) (hphase : s.lane.phase = .arbitration) :
    State.Updates s s.laneArbitrate := by
  unfold State.laneArbitrate
  simp only
  split
  · next x hx =>
    exact .trans (s.grant_updates x.1 x.2 (State.winner_eligible hx))
      (.one (.judged _ _ ((s.grant_phase _ _).trans hphase)))
  · exact .one (.judged s _ hphase)

theorem State.raiseHold_updates (s : State) (x : Station × MsgClass) : State.Updates s (s.raiseHold x) := by
  unfold State.raiseHold
  split
  · exact .refl
  · next m rest hq =>
    refine .ite (fun _ => .trans (.one (.fewerMessages s _ _ rest ?_)) (State.undeliverable_updates _ _ _ _))
      fun _ => .one (.fewerMessages s _ _ _ ?_)
    · rw [hq]; exact (List.sublist_cons_self m rest).map _
    · rw [hq]; exact List.Sublist.refl (Message.unheld m :: rest.map Message.unheld)

theorem State.laneHoldCount_updates (s : State) (b : List (Station × MsgClass)) : State.Updates s (s.laneHoldCount b) :=
  .trans (.foldl State.raiseHold_updates b s) (.one (.laneDone _))

theorem State.laneToArbitration_updates (s : State) (h : s.lane.phase = .transferStep → Work.lane ∈ s.due) :
    State.Updates s s.laneToArbitration := by
  unfold State.laneToArbitration
  split
  · next hphase => exact s.laneTransferStep_updates (h hphase)
  · exact .refl

theorem State.laneToHold_updates (s : State) (h : s.lane.phase = .transferStep → Work.lane ∈ s.due) :
    State.Updates s s.laneToHold := by
  unfold State.laneToHold
  refine .trans (s.laneToArbitration_updates h) ?_
  simp only
  split
  · next hphase => exact State.laneArbitrate_updates _ hphase
  · exact .refl

theorem State.laneFinish_updates (s : State) (h : s.lane.phase = .transferStep → Work.lane ∈ s.due) :
    State.Updates s s.laneFinish := by
  unfold State.laneFinish
  refine .trans (s.laneToHold_updates h) ?_
  simp only
  split
  · exact State.laneHoldCount_updates _ _
  · exact .refl

theorem State.closeLane_updates (s : State) : State.Updates s s.closeLane := by
  unfold State.closeLane
  split
  · exact .refl
  · next hphase => exact s.laneFinish_updates fun h => absurd h hphase

/-! ## Departures, from the station's new record on -/

theorem State.setTxQueues_updates (s : State) (n : Station) (f : Message → Bool) :
    State.Updates s (s.setLane { s.lane with
      tx := s.lane.tx.set n
        { urgent := (s.lane.queue n .urgent).filter f, normal := (s.lane.queue n .normal).filter f } }) := by
  have hu := State.Update.fewerMessages s n .urgent _ ((List.filter_sublist (p := f)).map _)
  have hn := State.Update.fewerMessages (s.setLane (s.lane.setTxQueue n .urgent ((s.lane.queue n .urgent).filter f))) n
    .normal ((s.lane.queue n .normal).filter f) (by
      rw [show (State.setLane s _).lane.queue n .normal = s.lane.queue n .normal by simp [Lane.queue, Lane.setTxQueue]]
      exact List.filter_sublist.map _)
  refine (State.Chain.one hu).trans (.single ?_)
  convert hn using 1
  simp [State.setLane, Lane.setTxQueue]

theorem State.returns_updates (s : State) (x : Station) (st : Stamp) : State.Updates s (s.returns x st) :=
  .foldl (fun t n => (t.setTxQueues_updates n fun m => !t.returned x n m).trans (.foldl (fun u m => u.undeliverable_updates _ _ m) _ _)) _ s

theorem State.discardQueues_updates (s : State) (n : Station) : State.Updates s (s.discardQueues n) := by
  have hempty := s.setTxQueues_updates n (fun _ => false)
  simp only [List.filter_false] at hempty
  exact hempty.trans (.one (.deferred _ _))

theorem State.dropFromTransfer_updates (s : State) (n : Station) (st : Stamp) :
    State.Updates s (s.dropFromTransfer n st) := by
  unfold State.dropFromTransfer
  split
  · exact .refl
  · next t ht =>
    refine .ite (fun _ => .one (.abandon s)) fun _ => .ite (fun _ => .ite (fun _ => ?_) fun _ => ?_) fun _ => .refl
    · exact .trans (.one (.abandon s)) (State.undeliverable_updates _ _ _ _)
    · exact .one (.reserve s t _ ht List.filter_sublist)

theorem State.announce_updates (s : State) (n : Station) (x : StationState) (c : Cause) (h : Bool) (st : Stamp) :
    State.Updates s (s.announce n x c h st) := by
  have hothers : State.Updates s (s.raiseToOthers n st (.stationChanged n x c)) := State.raiseAll_updates _ _ _
  exact .ite (fun _ => hothers.trans (State.raiseAll_updates _ _ _)) fun _ => hothers

theorem State.dropRole_updates (s : State) (n : Station) : State.Updates s (s.dropRole n) :=
  .ite (fun _ => .one (.coordinator s none (by simp))) fun _ => .refl

theorem State.orphanRoles_updates (s : State) (n : Station) (st : Stamp) : State.Updates s (s.orphanRoles n st) := by
  unfold State.orphanRoles
  rw [SlotEntry.orphan_eq]
  exact .trans (.one (.flags s n true)) (State.raiseAll_updates _ _ _)

theorem State.discardChanges_updates (s : State) (n : Station) : State.Updates s (s.discardChanges n) :=
  .one (.fewerChanges s _ List.filter_sublist)

theorem State.emptyReceive_updates (s : State) (n : Station) : State.Updates s (s.emptyReceive n) :=
  .one (.receive s n [] (List.nil_sublist _))

theorem State.ackClear_updates (s : State) (n : Station) : State.Updates s (s.ackClear n) :=
  s.setAckList_updates n [] (List.nil_sublist _)

theorem State.depart_updates (s : State) (n : Station) (x : StationState) (c : Cause) (st : Stamp) :
    State.Updates (s.setStation n ((s.station n).departed x c)) (s.depart n x c st) := by
  unfold State.depart
  refine .trans ?_ (.one (.emptyQueue _ _))
  refine .trans ?_ (State.ackResolve_updates _ _ _)
  refine .trans ?_ (State.ackClear_updates _ _)
  refine .trans ?_ (State.returns_updates _ _ _)
  refine .trans ?_ (State.emptyReceive_updates _ _)
  refine .trans ?_ (State.dropFromTransfer_updates _ _ _)
  refine .trans ?_ (State.discardQueues_updates _ _)
  refine .trans ?_ (.one (.clearRing _ _))
  refine .trans ?_ (State.discardChanges_updates _ _)
  refine .trans ?_ (State.orphanRoles_updates _ _ _)
  refine .trans ?_ (State.announce_updates _ _ _ _ _ _)
  exact State.dropRole_updates _ _

theorem State.endLeaving_updates (s : State) (n : Station) (st : Stamp) :
    State.Updates (s.setStation n ((s.station n).departed .absent .left)) (s.endLeaving n st) := by
  unfold State.endLeaving
  refine .trans ?_ (.one (.emptyQueue _ _))
  refine .trans ?_ (State.ackResolve_updates _ _ _)
  refine .trans ?_ (State.returns_updates _ _ _)
  refine .trans ?_ (State.emptyReceive_updates _ _)
  refine .trans ?_ (.one (.clearRing _ _))
  refine .trans ?_ (State.discardChanges_updates _ _)
  refine .trans ?_ (State.orphanRoles_updates _ _ _)
  exact State.announce_updates _ _ _ _ _ _

theorem State.leave_updates (s : State) (n : Station) (st : Stamp) :
    State.Updates (s.setStation n { s.station n with state := .leaving }) (s.leave n st) := by
  unfold State.leave
  refine .trans ?_ (State.ackClear_updates _ _)
  refine .trans ?_ (State.returns_updates _ _ _)
  refine .trans ?_ (State.discardQueues_updates _ _)
  refine .trans ?_ (State.discardChanges_updates _ _)
  refine .trans ?_ (.one (.flags _ n false))
  refine .trans ?_ (State.announce_updates _ _ _ _ _ _)
  exact State.dropRole_updates _ _

end Sys2Proof.Machine
end

section
/-! SUPPORT. The works of a boundary, the requests, the edges and the commands as chains of moves; the principle by which an
invariant of every update is one of every step. -/

namespace Sys2Proof.Machine

/-! ## The works of a boundary -/

theorem State.leaseCountdown_moves (s : State) (n : Station) : State.Moves s (s.leaseCountdown n) := by
  unfold State.leaseCountdown
  simp only
  refine .ite (fun hjoined => .ite (fun _ => .one (.depart s n _ _ _ (.inr rfl))) fun hpos => ?_) fun _ => .refl
  have hin : s.joined n = true := by simp [State.joined, hjoined]
  have hcounted : State.Updates s _ := .one (.lease s n ((s.station n).leaseCounter - 1) hin (by omega) (by omega))
  exact .ite (fun _ => State.Updates.moves (.trans hcounted (.one (.raise _ _ _ _)))) fun _ => State.Updates.moves hcounted

theorem State.examineLeaving_moves (s : State) (n : Station) : State.Moves s (s.examineLeaving n) :=
  .ite (fun h => .one (.endLeaving s n _ h.1 h.2)) fun _ => .refl

theorem State.raiseAll_due (s : State) (st : Stamp) (l : List (Station × Event)) : (s.raiseAll st l).due = s.due := by
  rw [State.raiseAll_eq]; rfl

/-- One entry of the change list is taken against the map: applied with its records, or failed (R69). -/
theorem State.commitChange_updates (s : State) (c : Change) (hc : c ∈ s.changes) :
    State.Updates s (s.commitChange c) ∧ (s.commitChange c).changes = s.changes := by
  unfold State.commitChange
  simp only
  split
  · next hok =>
    exact ⟨.trans (.one (.change s c hc hok)) (State.raiseAll_updates _ _ _), by rw [State.raiseAll_changes]; rfl⟩
  · exact ⟨State.raiseAll_updates _ _ _, State.raiseAll_changes _ _ _⟩

theorem State.commit_updates (s : State) : State.Updates s s.commit := by
  have hremoved : State.Updates s s.removeDueRoles := .trans (.one (.removals s)) (State.raiseAll_updates _ _ _)
  have hchanged := State.Chain.foldl_keeping (f := fun t c => State.commitChange t c)
    (fun t => t.changes = s.removeDueRoles.changes) s.removeDueRoles.changes
    (fun t ht c hc => by
      obtain ⟨hchain, hsame⟩ := t.commitChange_updates c (ht ▸ hc)
      exact ⟨hchain, hsame.trans ht⟩) s.removeDueRoles rfl
  exact (hremoved.trans hchanged.1).trans (.one (.fewerChanges _ [] (List.nil_sublist _)))

/-- Every work but the lane's and the arrival of TIMING, once it is no longer due. -/
theorem State.doWork_moves (s : State) {w : Work} (hlane : w ≠ .lane) (htiming : w ≠ .timing) :
    State.Moves s (s.doWork w) := by
  cases w with
  | timing => exact absurd rfl htiming
  | lane => exact absurd rfl hlane
  | lease n => exact s.leaseCountdown_moves n
  | latch => exact s.latch_updates.moves
  | ack => exact s.ackCountdown_updates.moves
  | commit => exact s.commit_updates.moves
  | leaving n => exact s.examineLeaving_moves n

theorem State.takeWork_moves (s : State) (w : Work) : State.Moves s (s.takeWork w) := by
  refine .ite (fun hdue => .ite (fun hw => ?_) fun hlane => ?_) fun _ => .refl
  · exact (s.laneFinish_updates fun _ => hw ▸ hdue).moves
  · refine .trans s.closeLane_updates.moves ?_
    by_cases htiming : w = .timing
    · subst htiming
      exact .one (.update (.timings _))
    · exact .trans (.one (.update (.drop _ w hlane htiming))) (State.doWork_moves _ hlane htiming)

theorem State.takeWorks_moves (s : State) (l : List Work) : State.Moves s (s.takeWorks l) := .foldl State.takeWork_moves l s

theorem State.settle_moves (s : State) : State.Moves s s.settle := s.takeWorks_moves _

/-! ## TIMING has come -/

/-- From s to t no TIMING is raised to wait, and none becomes due. -/
structure State.NoNewTiming (s t : State) : Prop where
  due  : Work.timing ∈ t.due → Work.timing ∈ s.due
  none : s.timings = PerStation.all [] → t.timings = PerStation.all []

theorem State.NoNewTiming.refl (s : State) : s.NoNewTiming s := ⟨id, id⟩

theorem State.NoNewTiming.trans {s t u : State} (h : s.NoNewTiming t) (k : t.NoNewTiming u) : s.NoNewTiming u :=
  ⟨h.due ∘ k.due, k.none ∘ h.none⟩

theorem PerStation.all_set {α : Type} (a : α) (n : Station) : (PerStation.all a).set n a = PerStation.all a := by
  cases n <;> rfl

/-- No update raises TIMING to wait: a boundary alone does (R17). -/
theorem State.Update.noNewTiming {s t : State} (h : State.Update s t) : s.NoNewTiming t := by
  cases h with
  | timings => rw [State.raiseTimings_eq]; exact ⟨fun h => List.mem_of_mem_erase h, fun _ => rfl⟩
  | drop | laneDone => exact ⟨fun h => List.mem_of_mem_erase h, id⟩
  | raise => rw [State.raise_eq]; exact ⟨id, id⟩
  | emptyQueue n => exact ⟨id, fun h => by show s.timings.set n [] = _; rw [h, PerStation.all_set]⟩
  | _ => exact ⟨id, id⟩

theorem State.Updates.noNewTiming {s t : State} (h : State.Updates s t) : s.NoNewTiming t :=
  State.Chain.keeps (P := s.NoNewTiming) (fun _ _ hup hs => hs.trans hup.noNewTiming) h (.refl s)

theorem State.Move.noNewTiming {s t : State} (h : State.Move s t) : s.NoNewTiming t := by
  have hset : ∀ n r, s.NoNewTiming (s.setStation n r) := fun _ _ => ⟨id, id⟩
  cases h with
  | update h => exact h.noNewTiming
  | depart n x c st => exact (hset _ _).trans (s.depart_updates n x c st).noNewTiming
  | leave n st => exact (hset _ _).trans (s.leave_updates n st).noNewTiming
  | endLeaving n st => exact (hset _ _).trans (s.endLeaving_updates n st).noNewTiming

theorem State.Moves.noNewTiming {s t : State} (h : State.Moves s t) : s.NoNewTiming t :=
  State.Chain.keeps (P := s.NoNewTiming) (fun _ _ hm hs => hs.trans hm.noNewTiming) h (.refl s)

theorem State.NoNewTiming.timingCome {s t : State} (h : s.NoNewTiming t) (hs : s.timingCome) : t.timingCome :=
  fun hdue => h.none (hs (h.due hdue))

/-- Once taken, TIMING has come. -/
theorem State.takeWork_timing_come (s : State) : (s.takeWork .timing).timingCome := by
  by_cases hdue : Work.timing ∈ s.due
  · rw [State.takeWork, if_pos hdue, if_neg (by decide)]
    exact fun _ => by rw [State.doWork, State.raiseTimings_eq]; rfl
  · rw [s.takeWork_not_due _ hdue]
    exact fun h => absurd h hdue

theorem State.takeWorks_cons (s : State) (w : Work) (l : List Work) :
    s.takeWorks (w :: l) = (s.takeWork w).takeWorks l := rfl

/-- Once every work is taken, TIMING has come. -/
theorem State.settle_timingCome (s : State) : s.settle.timingCome := by
  have hfirst : boundaryWorks true = .timing :: (boundaryWorks true).tail := rfl
  rw [State.settle, hfirst, State.takeWorks_cons]
  generalize (boundaryWorks true).tail = l
  exact (State.Moves.noNewTiming (State.takeWorks_moves _ l)).timingCome s.takeWork_timing_come

theorem State.readyFor_updates (s : State) (r : Request) : State.Updates s (s.readyFor r) :=
  .trans s.closeLane_updates (.ite (fun _ => .one (.timings _)) fun _ => .refl)

/-- A request at the registry or the timer finds that TIMING has come (R153). -/
theorem State.readyFor_timingCome (s : State) (r : Request) (h : Request.afterTiming r = true) :
    (s.readyFor r).timingCome := by
  unfold State.readyFor
  simp only [h, true_and]
  split
  · exact fun _ => by rw [State.raiseTimings_eq]; rfl
  · next hnot => exact fun hdue => absurd hdue hnot

/-! ## Lane work finished leaves the registry alone -/

theorem State.raise_registry (s : State) (n : Station) (st : Stamp) (e : Event) :
    (s.raise n st e).registry = s.registry := by rw [State.raise_eq]; rfl

theorem State.raiseAll_registry (s : State) (st : Stamp) (l : List (Station × Event)) :
    (s.raiseAll st l).registry = s.registry := by rw [State.raiseAll_eq]; rfl

theorem State.ackGone_registry (s : State) (m : Message) : (s.ackGone m).registry = s.registry := by
  unfold State.ackGone; split <;> rfl

theorem State.undeliverable_registry (s : State) (st : Stamp) (r : Reason) (m : Message) :
    (s.undeliverable st r m).registry = s.registry :=
  (State.ackGone_registry _ _).trans (s.raise_registry _ _ _)

theorem State.laneTransferStep_registry (s : State) : s.laneTransferStep.registry = s.registry := by
  unfold State.laneTransferStep
  simp only
  split
  · rfl
  · split
    · rw [State.setLane_registry, State.deliver, State.ackDelivered]
      split <;> simp [State.raiseAll_registry]
    · rfl

theorem State.laneArbitrate_registry (s : State) : s.laneArbitrate.registry = s.registry := by
  unfold State.laneArbitrate State.grant State.ackGranted
  simp only
  split
  · split
    · rfl
    · split <;> rfl
  · rfl

theorem State.raiseHold_registry (s : State) (x : Station × MsgClass) : (s.raiseHold x).registry = s.registry := by
  unfold State.raiseHold
  split
  · rfl
  · simp only
    split
    · exact State.undeliverable_registry _ _ _ _
    · rfl

theorem State.laneHoldCount_registry (s : State) (b : List (Station × MsgClass)) :
    (s.laneHoldCount b).registry = s.registry := by
  show (b.foldl (fun t x => State.raiseHold t x) s).registry = s.registry
  induction b generalizing s with
  | nil => rfl
  | cons x b ih => rw [List.foldl_cons, ih, State.raiseHold_registry]

theorem State.laneFinish_registry (s : State) : s.laneFinish.registry = s.registry := by
  have harbitration : s.laneToArbitration.registry = s.registry := by
    unfold State.laneToArbitration; split
    · exact s.laneTransferStep_registry
    · rfl
  have hhold : s.laneToHold.registry = s.registry := by
    unfold State.laneToHold; simp only; split
    · rw [State.laneArbitrate_registry, harbitration]
    · exact harbitration
  unfold State.laneFinish
  simp only
  split
  · rw [State.laneHoldCount_registry, hhold]
  · exact hhold

theorem State.closeLane_registry (s : State) : s.closeLane.registry = s.registry := by
  unfold State.closeLane
  split
  · rfl
  · exact s.laneFinish_registry

theorem State.readyFor_registry_eq (s : State) (r : Request) : (s.readyFor r).registry = s.registry := by
  unfold State.readyFor
  simp only
  split
  · rw [State.raiseTimings_eq]; exact s.closeLane_registry
  · exact s.closeLane_registry

end Sys2Proof.Machine
end

section
/-! SUPPORT. The requests, the edges and the commands as chains of updates and boundaries; the principle by which an invariant
of every update is one of every step. -/

namespace Sys2Proof.Machine

/-! ## The law of the frame timer, change by change -/

theorem Timer.law_iff (t : Timer) : t.law ↔
    (100 ≤ t.period ∧ t.period ≤ 20000) ∧ (t.refState = .off ↔ t.mode = .free) ∧ t.goodCount ≤ 3 ∧
    (t.mode = .free → t.goodCount = 0 ∧ t.faultCount = 0) ∧ (t.refState = .seeking → t.faultCount = 0) ∧
    (t.refState = .locked → t.goodCount = 0 ∧ t.faultCount ≤ 2) ∧ (t.refState = .lost → t.faultCount = 3) ∧
    t.lastInterval ≤ 65535 ∧ t.anchor ≤ t.now ∧ t.lastBoundary ≤ t.now ∧ (∀ e ∈ t.prevEdge, e ≤ t.now) ∧
    ∀ r ∈ t.pendingTiming, 100 ≤ r.period ∧ r.period ≤ 20000 := by
  cases h : t.prevEdge <;> cases k : t.pendingTiming <;> simp [Timer.law, h, k]

/-- Time passes (R2). -/
theorem Timer.law_at {t : Timer} (h : t.law) {i : Nat} (hi : t.now ≤ i) : (t.at i).law := by
  rw [Timer.law_iff] at h ⊢
  obtain ⟨hperiod, hoff, hgood, hfree, hseek, hlock, hlost, hint, hanchor, hlast, hprev, hpend⟩ := h
  exact ⟨hperiod, hoff, hgood, hfree, hseek, hlock, hlost, hint, hanchor.trans hi, hlast.trans hi,
    fun e he => (hprev e he).trans hi, hpend⟩

/-- The anchor moves to the present instant. -/
theorem Timer.law_anchored {t : Timer} (h : t.law) : { t with anchor := t.now : Timer }.law := by
  rw [Timer.law_iff] at h ⊢
  obtain ⟨hperiod, hoff, hgood, hfree, hseek, hlock, hlost, hint, -, hlast, hprev, hpend⟩ := h
  exact ⟨hperiod, hoff, hgood, hfree, hseek, hlock, hlost, hint, le_rfl, hlast, hprev, hpend⟩

/-- A boundary at the present instant, before its pending record (R2, R5). -/
def Timer.bounded (t : Timer) : Timer := { t with frame := t.frame + 1, lastBoundary := t.now, fsync := true }

theorem Timer.law_bounded {t : Timer} (h : t.law) : t.bounded.law := by
  rw [Timer.law_iff] at h ⊢
  obtain ⟨hperiod, hoff, hgood, hfree, hseek, hlock, hlost, hint, hanchor, -, hprev, hpend⟩ := h
  exact ⟨hperiod, hoff, hgood, hfree, hseek, hlock, hlost, hint, hanchor, le_rfl, hprev, hpend⟩

/-- A fault counted in LOCKED, the third with loss of lock (R12). -/
theorem Timer.law_fault {t : Timer} (h : t.law) (hlocked : t.refState = .locked) : t.fault.law := by
  rw [Timer.law_iff] at h ⊢
  obtain ⟨hperiod, hoff, hgood, hfree, hseek, hlock, hlost, hint, hanchor, hlast, hprev, hpend⟩ := h
  have hmode : t.mode ≠ .free := fun hm => by simp [hoff.mpr hm] at hlocked
  have hcounts := hlock hlocked
  unfold Timer.fault
  split
  · exact ⟨hperiod, by simp [hmode], by simp, by simp [hmode], by simp, by simp, by simp, hint, hanchor, hlast, hprev,
      hpend⟩
  · next hfew =>
    simp only [Config.faultLimit] at hfew
    exact ⟨hperiod, hoff, hgood, fun hm => absurd hm hmode, by simp [hlocked], fun _ => ⟨hcounts.1, by simp only; omega⟩,
      by simp [hlocked], hint, hanchor, hlast, hprev, hpend⟩

/-- An edge at the present instant is the previous one from now on (R6). -/
theorem Timer.law_edged {t : Timer} (h : t.law) {v : Nat} (hv : v ≤ 65535) :
    { t with lastInterval := v, prevEdge := some t.now : Timer }.law := by
  rw [Timer.law_iff] at h ⊢
  obtain ⟨hperiod, hoff, hgood, hfree, hseek, hlock, hlost, -, hanchor, hlast, -, hpend⟩ := h
  exact ⟨hperiod, hoff, hgood, hfree, hseek, hlock, hlost, hv, hanchor, hlast, by simp, hpend⟩

/-- A good count from 0 to 3 in SEEKING or LOST (R7). -/
theorem Timer.law_counted {t : Timer} (h : t.law) (hmode : t.mode = .follow) {k : Nat} (hk : k ≤ 3)
    (hopen : t.refState = .locked → k = 0) : { t with goodCount := k : Timer }.law := by
  rw [Timer.law_iff] at h ⊢
  obtain ⟨hperiod, hoff, -, hfree, hseek, hlock, hlost, hint, hanchor, hlast, hprev, hpend⟩ := h
  exact ⟨hperiod, hoff, hk, by simp [hmode], hseek, fun hl => ⟨hopen hl, (hlock hl).2⟩, hlost, hint, hanchor, hlast,
    hprev, hpend⟩

/-- The edge that gains lock (R8). -/
theorem Timer.law_locked {t : Timer} (h : t.law) (hmode : t.mode = .follow) :
    { t with refState := .locked, goodCount := 0, faultCount := 0, anchor := t.now : Timer }.law := by
  rw [Timer.law_iff] at h ⊢
  obtain ⟨hperiod, -, -, -, -, -, -, hint, -, hlast, hprev, hpend⟩ := h
  exact ⟨hperiod, by simp [hmode], by simp, by simp, by simp, by simp, by simp, hint, le_rfl, hlast, hprev, hpend⟩

/-- A good edge in LOCKED (R9). -/
theorem Timer.law_held {t : Timer} (h : t.law) (hlocked : t.refState = .locked) :
    { t with faultCount := 0, anchor := t.now : Timer }.law := by
  rw [Timer.law_iff] at h ⊢
  obtain ⟨hperiod, hoff, hgood, hfree, -, hlock, -, hint, -, hlast, hprev, hpend⟩ := h
  exact ⟨hperiod, hoff, hgood, fun hm => ⟨(hfree hm).1, rfl⟩, fun _ => rfl, fun hl => ⟨(hlock hl).1, by simp⟩,
    by simp [hlocked], hint, le_rfl, hlast, hprev, hpend⟩

/-- A pending record is written (R13). -/
theorem Timer.law_staged {t : Timer} (h : t.law) {r : TimingRecord} (hr : 100 ≤ r.period ∧ r.period ≤ 20000) :
    { t with pendingTiming := some r : Timer }.law := by
  rw [Timer.law_iff] at h ⊢
  obtain ⟨hperiod, hoff, hgood, hfree, hseek, hlock, hlost, hint, hanchor, hlast, hprev, -⟩ := h
  exact ⟨hperiod, hoff, hgood, hfree, hseek, hlock, hlost, hint, hanchor, hlast, hprev, by simpa using hr⟩

/-- The pending record at a boundary: kept, dropped, or applied by the table of R14. -/
theorem Timer.law_pendingTaken {t : Timer} (h : t.law) : t.pendingTaken.1.law := by
  have hlaw := h
  rw [Timer.law_iff] at h
  obtain ⟨hperiod, hoff, hgood, hfree, hseek, hlock, hlost, hint, hanchor, hlast, hprev, hpend⟩ := h
  unfold Timer.pendingTaken
  split
  · exact hlaw
  · next r hr =>
    have hrange := hpend r hr
    split
    · exact hlaw
    · split
      · exact (Timer.law_iff _).mpr ⟨hperiod, hoff, hgood, hfree, hseek, hlock, hlost, hint, hanchor, hlast, hprev, by simp⟩
      · simp only
        split
        · next hfrom hto =>
          exact (Timer.law_iff _).mpr ⟨hrange, by simp [hto, hoff.mpr hfrom], hgood, fun _ => hfree hfrom, hseek, hlock,
            hlost, hint, hlast, hlast, hprev, by simp⟩
        · next hto =>
          exact (Timer.law_iff _).mpr ⟨hrange, by simp [hto], by simp, by simp, by simp, by simp, by simp, hint, hlast,
            hlast, by simp, by simp⟩
        · next hto =>
          exact (Timer.law_iff _).mpr ⟨hrange, by simp [hto], by simp, by simp, by simp, by simp, by simp, hint, hlast,
            hlast, by simp, by simp⟩

/-! ## Boundaries -/

theorem State.announceTiming_eq (s : State) :
    s.announceTiming = s.setTimings (s.timings.map (fun n l => if s.joined n then l ++ [s.timer.event] else l)) := rfl

theorem State.applyPendingTiming_none (s : State) (h : s.timer.pendingTiming = none) : s.applyPendingTiming = s := by
  unfold State.applyPendingTiming; rw [h]

/-- A pending record equal to the settings in force is dropped (R14). -/
theorem State.applyPendingTiming_same (s : State) (r : TimingRecord) (h : s.timer.pendingTiming = some r)
    (hsame : r.period = s.timer.period ∧ r.mode = s.timer.mode) :
    s.applyPendingTiming = s.setTimer { s.timer with pendingTiming := none } := by
  unfold State.applyPendingTiming
  rw [h]
  exact if_pos hsame

/-- Another is applied, with its TIMING (R14). -/
theorem State.applyPendingTiming_new (s : State) (r : TimingRecord) (h : s.timer.pendingTiming = some r)
    (hnew : ¬ (r.period = s.timer.period ∧ r.mode = s.timer.mode)) :
    s.applyPendingTiming = (s.setTimer (s.timer.apply r)).announceTiming := by
  unfold State.applyPendingTiming
  rw [h]
  exact if_neg hnew

/-- The model's application of a pending record is the table of R14. -/
theorem Timer.apply_eq (t : Timer) (r : TimingRecord) (hr : t.pendingTiming = some r) (hepoch : t.atEpoch = true)
    (hnew : ¬ (r.period = t.period ∧ r.mode = t.mode)) (hnow : t.now = t.lastBoundary) :
    t.pendingTaken = (t.apply r, [(t.apply r).event]) := by
  have h16 : ¬ t.frame.toNat % 16 ≠ 0 := by simpa [Timer.atEpoch] using hepoch
  unfold Timer.pendingTaken Timer.apply Timer.event
  simp only [hr, if_neg h16, if_neg hnew, hnow]
  cases hm : t.mode <;> cases hrm : r.mode <;> rfl

/-- TIMING raised in two parts to the stations JOINED at one moment. -/
theorem map_ite_append_append {α : Type} (v : PerStation (List α)) (f : Station → Bool) (a b : List α) :
    (v.map (fun n l => if f n then l ++ a else l)).map (fun n l => if f n then l ++ b else l) =
      v.map (fun n l => if f n then l ++ (a ++ b) else l) := by
  apply PerStation.ext_get
  intro n
  simp only [PerStation.get_map]
  split <;> simp

/-- A boundary made by the model is the boundary of the statements, once the works of the last one are done (R2, R14, R15). -/
theorem State.makeBoundary_eq (s : State) (announce : Bool) :
    s.makeBoundary announce =
      s.settle.atBoundary s.settle.timer.bounded (if announce then [s.settle.timer.event] else []) := by
  unfold State.makeBoundary
  generalize s.settle = u
  have hmap : u.timings.map (fun n l => if u.joined n then l ++ [] else l) = u.timings := by
    apply PerStation.ext_get; intro n; simp
  have hdue : boundaryWorks (u.timer.bounded.frame.toNat % 16 == 0) = boundaryWorks u.timer.bounded.atEpoch := rfl
  have hepoch_iff : u.timer.bounded.atEpoch = true ↔ u.timer.bounded.frame.toNat % 16 = 0 := by simp [Timer.atEpoch]
  show (if u.timer.bounded.atEpoch = true then
      (if announce = true then (u.setTimer u.timer.bounded).announceTiming else u.setTimer u.timer.bounded).applyPendingTiming
    else if announce = true then (u.setTimer u.timer.bounded).announceTiming else u.setTimer u.timer.bounded).setDue
      (boundaryWorks u.timer.bounded.atEpoch) = _
  have hannounced : (if announce = true then (u.setTimer u.timer.bounded).announceTiming else u.setTimer u.timer.bounded) =
      (u.setTimer u.timer.bounded).setTimings
        (u.timings.map (fun n l => if u.joined n then l ++ (if announce then [u.timer.event] else []) else l)) := by
    cases announce
    · simp only [Bool.false_eq_true, if_false, hmap]; rfl
    · rfl
  rw [hannounced]
  unfold State.atBoundary
  rw [hdue]
  cases hp : u.timer.bounded.pendingTiming with
  | none =>
    have hkept : u.timer.bounded.pendingTaken = (u.timer.bounded, []) := by simp [Timer.pendingTaken, hp]
    rw [State.applyPendingTiming_none ((u.setTimer u.timer.bounded).setTimings _) hp]
    simp only [ite_self, hkept, List.append_nil]
    rfl
  | some r =>
    by_cases hepoch : u.timer.bounded.atEpoch = true
    · by_cases hsame : r.period = u.timer.bounded.period ∧ r.mode = u.timer.bounded.mode
      · have hdropped : u.timer.bounded.pendingTaken = ({ u.timer.bounded with pendingTiming := none }, []) := by
          simp [Timer.pendingTaken, hp, hepoch_iff.mp hepoch, hsame]
        rw [if_pos hepoch, State.applyPendingTiming_same ((u.setTimer u.timer.bounded).setTimings _) r hp hsame]
        simp only [hdropped, List.append_nil, hepoch]
        rfl
      · have happlied := Timer.apply_eq _ r hp hepoch hsame rfl
        rw [if_pos hepoch, State.applyPendingTiming_new ((u.setTimer u.timer.bounded).setTimings _) r hp hsame]
        simp only [happlied, ← map_ite_append_append, hepoch]
        rfl
    · have hkept : u.timer.bounded.pendingTaken = (u.timer.bounded, []) := by
        simp [Timer.pendingTaken, hp, mt hepoch_iff.mpr hepoch]
      simp only [hepoch, Bool.false_eq_true, if_false, hkept, List.append_nil]
      rfl

theorem State.makeBoundary_acts (s : State) (announce : Bool) : State.Acts s (s.makeBoundary announce) := by
  rw [State.makeBoundary_eq]
  exact .trans (State.Moves.acts s.settle_moves)
    (.one (.boundary _ _ _ s.settle_timingCome Timer.law_bounded (by split <;> simp)))

/-- The timer takes a new value. -/
theorem State.retime_acts (s : State) (t : Timer) (h : s.timer.law → t.law) : State.Acts s (s.setTimer t) :=
  .one (.move (.update (.retime s t h)))

theorem State.internalTimer_acts (s : State) : State.Acts s s.internalTimer := by
  unfold State.internalTimer
  split
  · exact .refl
  · exact .trans (s.retime_acts _ fun h => Timer.law_at h (le_max_left _ _)) (State.makeBoundary_acts _ _)

theorem State.substitute_acts (s : State) : State.Acts s s.substitute := by
  unfold State.substitute
  split
  · next hlocked =>
    refine .trans (s.retime_acts _ fun h => ?_) (State.makeBoundary_acts _ _)
    exact Timer.law_fault (Timer.law_anchored (Timer.law_at h (le_max_left _ _))) hlocked
  · exact .refl

theorem State.ownBoundary_acts (s : State) : State.Acts s s.ownBoundary := by
  unfold State.ownBoundary
  split
  · exact s.substitute_acts
  · exact s.internalTimer_acts

/-! ## FREF edges -/

theorem State.raiseTiming_acts (s : State) : State.Acts s s.raiseTiming :=
  State.Moves.acts (State.Updates.moves (s.raiseAll_updates _ _))

theorem State.badLockedEdge_acts (s : State) (hlocked : s.timer.refState = .locked) : State.Acts s s.badLockedEdge := by
  have hfault : State.Acts s (s.setTimer s.timer.fault) := s.retime_acts _ fun h => Timer.law_fault h hlocked
  have hlost := hfault.trans (State.raiseTiming_acts _)
  exact .ite (fun _ => .ite (fun _ => hlost.trans (State.makeBoundary_acts _ _)) fun _ => hlost) fun _ => hfault

theorem State.goodLockedEdge_acts (s : State) (hlocked : s.timer.refState = .locked) : State.Acts s s.goodLockedEdge := by
  have hgood : State.Acts s (s.setTimer { s.timer with faultCount := 0, anchor := s.timer.now }) :=
    s.retime_acts _ fun h => Timer.law_held h hlocked
  exact .ite (fun _ => hgood.trans (State.makeBoundary_acts _ _)) fun _ => hgood

theorem State.lockEdge_acts (s : State) (hmode : s.timer.mode = .follow) : State.Acts s s.lockEdge := by
  have hlock : State.Acts s (s.setTimer
      { s.timer with refState := .locked, goodCount := 0, faultCount := 0, anchor := s.timer.now }) :=
    s.retime_acts _ fun h => Timer.law_locked h hmode
  exact .ite (fun _ => hlock.trans (State.makeBoundary_acts _ _)) fun _ => hlock.trans (State.raiseTiming_acts _)

theorem State.judgedEdge_acts (s : State) (v : Nat) (hv : v ≤ 65535) (hmode : s.timer.mode = .follow) :
    State.Acts s (s.judgedEdge v) := by
  unfold State.judgedEdge
  refine .trans (s.retime_acts { s.timer with lastInterval := v, prevEdge := some s.timer.now }
    fun h => Timer.law_edged h hv) ?_
  simp only
  split
  · next hlocked =>
    exact .ite (fun _ => State.goodLockedEdge_acts _ hlocked) fun _ => State.badLockedEdge_acts _ hlocked
  · next hopen =>
    refine .ite (fun _ => .ite (fun hfew => ?_) fun _ => State.lockEdge_acts _ hmode) fun _ => ?_
    · exact State.retime_acts _ _ fun h => Timer.law_counted h hmode (by simpa using hfew) fun hl => absurd hl hopen
    · exact State.retime_acts _ _ fun h => Timer.law_counted h hmode (by simp) fun _ => rfl

theorem State.edge_acts (s : State) : State.Acts s s.edge := by
  unfold State.edge
  split
  · exact .refl
  · next hfollow =>
    have hmoved : State.Moves s (s.closeLane.takeWork .timing) :=
      .trans (State.Updates.moves s.closeLane_updates) (State.takeWork_moves _ _)
    have hmode : (s.closeLane.takeWork .timing).timer.mode = .follow := by
      rw [(s.closeLane_same.trans (State.takeWork_same _ _)).timer, hfollow]
    refine .trans (State.Moves.acts hmoved) ?_
    simp only
    split
    · exact State.retime_acts _ _ fun h => Timer.law_edged h ((Timer.law_iff _).mp h).2.2.2.2.2.2.2.1
    · exact State.judgedEdge_acts _ _ (min_le_left _ _) hmode

/-! ## The passing of time -/

theorem State.passTo_acts (s : State) (i : Nat) : State.Acts s (s.passTo i) := by
  refine .trans (State.Moves.acts s.settle_moves) ?_
  exact State.retime_acts _ _ fun h => Timer.law_at h (le_max_left _ _)

theorem State.advance_acts (k i : Nat) (s : State) : State.Acts s (State.advance k i s) := by
  induction k generalizing s with
  | zero => exact s.passTo_acts i
  | succ k ih => exact .ite (fun _ => .trans s.ownBoundary_acts (ih _)) fun _ => s.passTo_acts i

theorem State.elapse_acts (s : State) (us : Nat) : State.Acts s (s.elapse us) :=
  .ite (fun _ => .refl) fun _ => State.advance_acts us _ s

theorem State.idle_acts (s : State) : State.Acts s s.idle := by
  unfold State.idle
  split
  · exact State.Moves.acts (s.takeWork_moves _)
  · exact .ite (fun _ => s.ownBoundary_acts) fun _ => s.passTo_acts _

end Sys2Proof.Machine
end

section
/-! SUPPORT. The requests and the commands as chains of updates, departures and boundaries; the principle by which an invariant of
every update is one of every step. -/

namespace Sys2Proof.Machine

/-! ## Who passes the registry's checks (R20, R32) -/

theorem requesterRefusal_none {x : StationState} {r : Request} (h : requesterRefusal x r = none) :
    (r = .join → x ≠ .joined ∧ x ≠ .leaving) ∧
    (Request.fromOutside r = false → x = .joined ∨ (x = .leaving ∧ Request.fromLeaving r = true)) := by
  unfold requesterRefusal at h
  cases x <;> split_ifs at h <;> simp_all

theorem State.requester_passes {s : State} {p : Station} {r : Request} (h : s.registryRefusal p r = none) :
    requesterRefusal (s.station p).state r = none := by
  unfold State.registryRefusal at h
  split at h
  · cases h
  · assumption

/-- A JOIN passes from outside alone. -/
theorem State.not_present_of_join {s : State} {p : Station} (h : s.registryRefusal p .join = none) :
    s.present p = false := by
  obtain ⟨hjoined, hleaving⟩ := (requesterRefusal_none (State.requester_passes h)).1 rfl
  simp [State.present, hjoined, hleaving]

/-- The other requests that READ STATUS and READ IDENTITY are not pass from a member alone. -/
theorem State.present_of_passes {s : State} {p : Station} {r : Request} (h : s.registryRefusal p r = none)
    (hr : Request.fromOutside r = false) : s.present p = true := by
  rcases (requesterRefusal_none (State.requester_passes h)).2 hr with hx | ⟨hx, -⟩ <;> simp [State.present, hx]

/-- Those that a LEAVING station may not make pass from a JOINED one alone. -/
theorem State.joined_of_passes {s : State} {p : Station} {r : Request} (h : s.registryRefusal p r = none)
    (hr : Request.fromOutside r = false) (hl : Request.fromLeaving r = false) : s.joined p = true := by
  rcases (requesterRefusal_none (State.requester_passes h)).2 hr with hx | ⟨-, hx⟩
  · simp [State.joined, hx]
  · rw [hl] at hx; cases hx

theorem State.registryRefusal_congr {s t : State} (h : t.registry = s.registry) (p : Station) (r : Request) :
    t.registryRefusal p r = s.registryRefusal p r := by
  unfold State.registryRefusal State.station State.holdsRole
  rw [h]

/-! ## The requests -/

/-- A request that answers one way or the other. -/
theorem State.Chain.ite_fst {R : State → State → Prop} {s : State} {a b : State × Reply} {c : Prop} [Decidable c]
    (ha : c → State.Chain R s a.1) (hb : ¬ c → State.Chain R s b.1) : State.Chain R s (if c then a else b).1 := by
  split
  · next h => exact ha h
  · next h => exact hb h

/-- A staging request appends one entry or is refused (R57). -/
theorem State.stageRequest_updates (s : State) (o : Option Station) (k : ChangeKind) (j : Nat) (own : Option Status)
    (hj : own = none → j < 48) (hk : o = none ↔ k = .forceRelease) (hin : ∀ n ∈ o, s.joined n = true) :
    State.Updates s (s.stageRequest o k j own).1 := by
  unfold State.stageRequest
  split
  · exact .refl
  · next hroom =>
    split
    · exact .refl
    · exact .one (.stage s o k j hroom (hj rfl) hk hin)

/-- Some sequence number within four of the counter is free of four entries (R104). -/
theorem freeSeq_spec (held : List Byte) (k : Nat) (c : Byte) :
    ∃ i ≤ k, freeSeq held k c = c + BitVec.ofNat 8 i ∧ (∀ j < i, c + BitVec.ofNat 8 j ∈ held) ∧
      (i < k → freeSeq held k c ∉ held) := by
  induction k generalizing c with
  | zero => exact ⟨0, le_rfl, by simp [freeSeq], by simp, by simp⟩
  | succ k ih =>
    unfold freeSeq
    split
    · next hc =>
      obtain ⟨i, hi, heq, hbefore, hfree⟩ := ih (c + 1)
      have hshift : ∀ j : Nat, c + 1 + BitVec.ofNat 8 j = c + BitVec.ofNat 8 (j + 1) := fun j => by
        rw [BitVec.ofNat_add, BitVec.add_assoc]
        congr 1
        exact BitVec.add_comm _ _
      refine ⟨i + 1, by omega, by rw [heq, hshift], fun j hj => ?_, fun hlt => hfree (by omega)⟩
      cases j with
      | zero => simpa using hc
      | succ j => rw [← hshift]; exact hbefore j (by omega)
    · next hc => exact ⟨0, by omega, by simp, by simp, fun _ => hc⟩

/-- With fewer entries than places in the table the number found is free (R104). -/
theorem freeSeq_not_mem (held : List Byte) (k : Nat) (c : Byte) (hk : k < 256) (hlen : held.length ≤ k) :
    freeSeq held k c ∉ held := by
  obtain ⟨i, hi, heq, hbefore, hfree⟩ := freeSeq_spec held k c
  rcases Nat.lt_or_ge i k with hlt | hge
  · exact hfree hlt
  · obtain rfl : i = k := by omega
    intro hmem
    have hall : ∀ x ∈ (List.range (i + 1)).map (fun j => c + BitVec.ofNat 8 j), x ∈ held := by
      intro x hx
      obtain ⟨j, hj, rfl⟩ := List.mem_map.mp hx
      rcases Nat.lt_or_ge j i with h | h
      · exact hbefore j h
      · obtain rfl : j = i := by have := List.mem_range.mp hj; omega
        rwa [heq] at hmem
    have hnodup : ((List.range (i + 1)).map (fun j => c + BitVec.ofNat 8 j)).Nodup := by
      refine List.Nodup.map_on (fun a ha b hb hab => ?_) List.nodup_range
      have ha := List.mem_range.mp ha
      have hb := List.mem_range.mp hb
      have hab := congrArg BitVec.toNat ((BitVec.add_right_inj c).mp hab)
      simp only [BitVec.toNat_ofNat] at hab
      omega
    have hle := (List.subperm_of_subset hnodup hall).length_le
    simp at hle
    omega

/-- What the operands of a POST that passes step 3 are (R108). -/
theorem postOperands_some {p : Station} {ops : List Byte} {o : PostOperands} (h : postOperands p ops = some o) :
    1 ≤ o.payload.length ∧ o.payload.length ≤ 60 ∧ o.dest ≠ some p := by
  unfold postOperands at h
  simp only at h
  split at h
  · next dest cls hdest hcls =>
    split at h
    · next hformed =>
      cases h
      obtain ⟨hmin, hmax, hlen, -, -⟩ := hformed
      refine ⟨hlen ▸ hmin, hlen ▸ hmax, ?_⟩
      unfold postDest at hdest
      rintro rfl
      split at hdest
      · simp at hdest
      · split at hdest
        · split at hdest
          · cases hdest
          · next hne => simp at hdest; exact hne hdest
        · cases hdest
    · cases h
  · cases h

/-- What step 4 to 6 of R108 leave. -/
theorem State.postRefusal_none {s : State} {p : Station} {o : PostOperands} (h : s.postRefusal p o = none) :
    s.peerJoined p o.dest = true ∧ (s.lane.queue p o.cls).length < classCapacity o.cls ∧
      (o.ackTimeout.isSome = true → (s.acks.get p).length < 4) := by
  unfold State.postRefusal at h
  split_ifs at h with hpeer hroom htable
  exact ⟨by simpa using hpeer, not_le.mp hroom, fun hwanted => by simpa [hwanted] using htable⟩

section
variable (p : Station) (ops : List Byte) (s : State)

theorem servePost_updates (hin : s.joined p = true) : State.Updates s (servePost p ops s).1 := by
  unfold servePost
  split
  · exact .refl
  · next o ho =>
    split
    · exact .refl
    · next hpass =>
      obtain ⟨hmin, hmax, hdest⟩ := postOperands_some ho
      obtain ⟨-, hroom, htable⟩ := State.postRefusal_none hpass
      unfold State.enqueue
      simp only
      have hqueued : State.Updates s _ := .one (.enqueue s p (s.postedMessage p o) hin rfl ⟨hmin, hmax⟩ rfl hroom)
      have hcounted := hqueued.trans (.one (.seq _ p ((s.postedMessage p o).seq + 1) hin))
      split
      · next d t hd ht =>
        have hfew : (s.acks.get p).length < 4 := htable (by show o.ackTimeout.isSome = true; rw [show o.ackTimeout = some t from ht]; rfl)
        have hfree : (s.postedMessage p o).seq ∉ (s.acks.get p).map (fun a => a.seq) :=
          freeSeq_not_mem _ _ _ (by decide) (by simpa using hfew.le)
        refine hcounted.trans (.one (.ackCreate _ p _ _ d t ?_ hfew (fun a ha heq => hfree ?_) ?_))
        · simpa [State.joined, State.station] using hin
        · exact List.mem_map.mpr ⟨a, ha, heq⟩
        · exact fun heq => hdest (by rw [← heq]; exact hd)
      · exact hcounted

theorem Lane.setTxQueue_without_updates (m : Message) : State.Updates s (s.setLane (s.lane.without m)) :=
  .one (.fewerMessages s _ _ _ (List.filter_sublist.map _))

theorem serveCancel_updates : State.Updates s (serveCancel p ops s).1 := by
  unfold serveCancel
  split
  · exact .refl
  · exact .ite_fst (fun _ => .trans (.one (.abandon s)) (State.ackGone_updates _ _))
      fun _ => .trans (Lane.setTxQueue_without_updates s _) (State.ackGone_updates _ _)

theorem serveAck_updates : State.Updates s (serveAck p ops s).1 := by
  unfold serveAck
  split
  · exact .refl
  · split
    · exact .refl
    · split
      · exact .refl
      · exact .trans (s.setAckList_updates _ _ (List.filter_sublist.map _)) (.one (.raise _ _ _ _))

theorem serveSetLane_updates : State.Updates s (serveSetLane p ops s).1 := by
  refine .ite_fst (fun h => .one (.pendingLane s _ ⟨h.1, h.2.1, h.2.2, ?_⟩)) fun _ => .refl
  have := (operand ops 1).isLt
  show (operand ops 1).toNat ≤ 255
  omega

theorem serveSetLease_updates : State.Updates s (serveSetLease p ops s).1 := by
  refine .ite_fst (fun h => .one (.setting s _ h ?_)) fun _ => .refl
  have := (operand ops 0).isLt
  show (operand ops 0).toNat ≤ 255
  omega

theorem serveSetTiming_updates : State.Updates s (serveSetTiming p ops s).1 := by
  unfold serveSetTiming
  simp only
  split
  · exact .ite_fst (fun h => .one (.retime s _ fun hlaw => Timer.law_staged hlaw h)) fun _ => .refl
  · exact .refl

theorem serveJoin_updates (hout : s.present p = false) : State.Updates s (serveJoin p ops s).1 := by
  unfold serveJoin
  refine .ite_fst (fun _ => .refl) fun hname => ?_
  refine .trans (.trans (.one (.join s p _ hout (by simpa using hname))) (.one (.drop _ _ ?_ ?_))) (State.raiseAll_updates _ _ _)
  · nofun
  · nofun

theorem serveLeave_moves (hin : s.joined p = true) (hcome : s.timingCome) : State.Moves s (serveLeave p ops s).1 := by
  have hpassed : s.passExamination p = s ∨ s.passExamination p = s.dropWork (.leaving p) := by
    unfold State.passExamination; split
    · exact .inl rfl
    · exact .inr rfl
  show State.Moves s ((s.passExamination p).leave p s.stamp)
  rcases hpassed with h | h
  · rw [h]; exact .one (.leave s p _ hin hcome)
  · rw [h]
    refine .trans (.one (.update (.drop s (.leaving p) ?_ ?_))) (.one (.leave _ p _ hin ?_))
    · nofun
    · nofun
    · exact fun hdue => hcome (List.mem_of_mem_erase hdue)

theorem serveRenew_updates (hin : s.joined p = true) : State.Updates s (serveRenew p ops s).1 :=
  .ite_fst (fun _ => .one (.renew s p _ hin)) fun _ => .refl

theorem serveClaimCoordinator_updates (hin : s.joined p = true) : State.Updates s (serveClaimCoordinator p ops s).1 := by
  unfold serveClaimCoordinator
  split
  · exact .trans (.one (.coordinator s (some p) (by simpa using hin))) (State.raiseAll_updates _ _ _)
  · split <;> exact .refl

theorem serveResign_updates : State.Updates s (serveResign p ops s).1 :=
  .ite_fst (fun _ => .trans (.one (.coordinator s none (by simp))) (State.raiseAll_updates _ _ _)) fun _ => .refl

theorem serveEvict_moves : State.Moves s (serveEvict p ops s).1 := by
  unfold serveEvict
  split
  · exact .refl
  · exact .ite_fst (fun _ => .refl) fun _ => .ite_fst (fun _ => .one (.depart s _ _ _ _ (.inr rfl))) fun _ => .refl

theorem anySlot_lt {m : List SlotEntry} {n : Station} {k : Nat} (h : anySlot m n = some k) : k < 48 :=
  List.mem_range.mp (List.mem_of_find?_eq_some h)

theorem serveClaimSlot_updates (hin : s.joined p = true) : State.Updates s (serveClaimSlot p ops s).1 := by
  have hmine : ∀ n ∈ some p, s.joined n = true := by simpa using hin
  unfold serveClaimSlot
  simp only
  split
  · next hk => exact s.stageRequest_updates _ _ _ _ (fun _ => hk) (by simp) hmine
  · split
    · split
      · next j hj => exact s.stageRequest_updates _ _ _ _ (fun _ => anySlot_lt hj) (by simp) hmine
      · exact s.stageRequest_updates _ _ _ _ (by simp) (by simp) hmine
    · exact .refl

theorem serveSubscribe_updates (hin : s.joined p = true) : State.Updates s (serveSubscribe p ops s).1 := by
  unfold serveSubscribe
  simp only
  split
  · exact .ite_fst (fun hk => s.stageRequest_updates _ _ _ _ (fun _ => hk) (by simp) (by simpa using hin)) fun _ => .refl
  · exact .refl

theorem serveReleaseSlot_updates (hin : s.joined p = true) : State.Updates s (serveReleaseSlot p ops s).1 :=
  .ite_fst (fun hk => s.stageRequest_updates _ _ _ _ (fun _ => hk) (by simp) (by simpa using hin)) fun _ => .refl

theorem serveUnsubscribe_updates (hin : s.joined p = true) : State.Updates s (serveUnsubscribe p ops s).1 :=
  .ite_fst (fun hk => s.stageRequest_updates _ _ _ _ (fun _ => hk) (by simp) (by simpa using hin)) fun _ => .refl

theorem serveForceRelease_updates : State.Updates s (serveForceRelease p ops s).1 :=
  .ite_fst (fun hk => s.stageRequest_updates _ _ _ _ (fun _ => hk) (by simp) (by simp)) fun _ => .refl

theorem serveWithdraw_updates : State.Updates s (serveWithdraw p ops s).1 := by
  have hremoved : State.Updates s (s.setChanges (s.changes.filter (fun c => c.id ≠ (operand ops 0).toNat))) :=
    .one (.fewerChanges s _ List.filter_sublist)
  unfold serveWithdraw
  simp only
  split
  · exact .refl
  · split
    · exact .ite_fst (fun _ => hremoved) fun _ => .refl
    · exact .ite_fst (fun _ => hremoved) fun _ => .refl

theorem writePairs_updates (l : List (Nat × Word)) : State.Updates s (s.setSlots (l.foldl writePair s.slots)) := by
  induction l generalizing s with
  | nil => exact .refl
  | cons x l ih => exact .trans (.one (.publish s x)) (ih (s.setSlots (writePair s.slots x)))

theorem servePublish_updates : State.Updates s (servePublish p ops s).1 := by
  unfold servePublish
  simp only
  split
  · exact .refl
  · exact writePairs_updates s (publishPairs ops)

theorem serveReadMap_state : (serveReadMap p ops s).1 = s := by
  unfold serveReadMap; simp only; split <;> rfl

theorem serveReadSlot_state : (serveReadSlot p ops s).1 = s := by
  unfold serveReadSlot
  simp only
  split
  · split <;> rfl
  · rfl

theorem servePeekMessage_state : (servePeekMessage p ops s).1 = s := by
  unfold servePeekMessage; split <;> rfl

theorem serveDrainRing_updates (hin : s.present p = true) : State.Updates s (serveDrainRing p ops s).1 :=
  .ite_fst (fun _ => .ite_fst (fun _ => .refl) fun _ => .one (.drain s p _ hin)) fun _ => .refl

theorem serveSetWatermark_updates (hin : s.present p = true) : State.Updates s (serveSetWatermark p ops s).1 :=
  .ite_fst (fun h => .one (.watermark s p _ hin h.1 h.2)) fun _ => .refl

theorem serveTakeMessage_updates : State.Updates s (serveTakeMessage p ops s).1 := by
  unfold serveTakeMessage
  split
  · exact .refl
  · next c rest hq => exact .one (.receive s p rest (hq ▸ List.sublist_cons_self c rest))

theorem serveTakeEvent_updates (hin : s.present p = true) : State.Updates s (serveTakeEvent p ops s).1 := by
  unfold serveTakeEvent
  simp only
  split
  · next r rest hr =>
    refine .one (.queue s p _ hin fun hlaw => ⟨?_, hlaw.2⟩)
    show rest.length ≤ 15
    have := hlaw.1
    rw [hr] at this
    simp only [List.length_cons] at this
    omega
  · exact .one (.queue s p _ hin fun hlaw => ⟨hlaw.1, trivial⟩)
  · exact .refl

theorem serveSetMask_updates (hin : s.present p = true) : State.Updates s (serveSetMask p ops s).1 :=
  .ite_fst (fun _ => .refl) fun _ => .one (.queue s p _ hin id)

theorem serveReadStatus_moves : State.Moves s (serveReadStatus p ops s).1 := by
  simpa only [serveReadStatus] using s.settle_moves

/-- A request that passed the registry's checks, and that TIMING has come to if it is one at the registry or the timer. -/
theorem serve_moves (r : Request) (hpass : s.registryRefusal p r = none)
    (hcome : Request.afterTiming r = true → s.timingCome) : State.Moves s (serve r p ops s).1 := by
  cases r with
  | join => exact State.Updates.moves (serveJoin_updates p ops s (State.not_present_of_join hpass))
  | leave => exact serveLeave_moves p ops s (State.joined_of_passes hpass rfl rfl) (hcome rfl)
  | detach => exact .one (.depart s p _ _ _ (.inl rfl))
  | renew => exact State.Updates.moves (serveRenew_updates p ops s (State.joined_of_passes hpass rfl rfl))
  | readStatus => exact serveReadStatus_moves p ops s
  | readFrame => exact .refl
  | readIdentity => exact .refl
  | claimCoordinator =>
    exact State.Updates.moves (serveClaimCoordinator_updates p ops s (State.joined_of_passes hpass rfl rfl))
  | resign => exact State.Updates.moves (serveResign_updates p ops s)
  | setTiming => exact State.Updates.moves (serveSetTiming_updates p ops s)
  | setLane => exact State.Updates.moves (serveSetLane_updates p ops s)
  | setLease => exact State.Updates.moves (serveSetLease_updates p ops s)
  | evict => exact serveEvict_moves p ops s
  | forceRelease => exact State.Updates.moves (serveForceRelease_updates p ops s)
  | claimSlot => exact State.Updates.moves (serveClaimSlot_updates p ops s (State.joined_of_passes hpass rfl rfl))
  | releaseSlot => exact State.Updates.moves (serveReleaseSlot_updates p ops s (State.joined_of_passes hpass rfl rfl))
  | subscribe => exact State.Updates.moves (serveSubscribe_updates p ops s (State.joined_of_passes hpass rfl rfl))
  | unsubscribe => exact State.Updates.moves (serveUnsubscribe_updates p ops s (State.joined_of_passes hpass rfl rfl))
  | withdraw => exact State.Updates.moves (serveWithdraw_updates p ops s)
  | listChanges => exact .refl
  | readMap => exact (congrArg (State.Moves s) (serveReadMap_state p ops s)).mpr .refl
  | publish => exact State.Updates.moves (servePublish_updates p ops s)
  | readSlot => exact (congrArg (State.Moves s) (serveReadSlot_state p ops s)).mpr .refl
  | drainRing => exact State.Updates.moves (serveDrainRing_updates p ops s (State.present_of_passes hpass rfl))
  | setWatermark => exact State.Updates.moves (serveSetWatermark_updates p ops s (State.present_of_passes hpass rfl))
  | post => exact State.Updates.moves (servePost_updates p ops s (State.joined_of_passes hpass rfl rfl))
  | cancel => exact State.Updates.moves (serveCancel_updates p ops s)
  | takeMessage => exact State.Updates.moves (serveTakeMessage_updates p ops s)
  | peekMessage => exact (congrArg (State.Moves s) (servePeekMessage_state p ops s)).mpr .refl
  | ack => exact State.Updates.moves (serveAck_updates p ops s)
  | queueStatus => exact .refl
  | takeEvent => exact State.Updates.moves (serveTakeEvent_updates p ops s (State.present_of_passes hpass rfl))
  | setMask => exact State.Updates.moves (serveSetMask_updates p ops s (State.present_of_passes hpass rfl))

end

/-! ## The ports -/

theorem State.countdownFirst_moves (s : State) (p : Station) (r : Request) : State.Moves s (s.countdownFirst p r) :=
  .ite (fun _ => s.takeWork_moves _) fun _ => .refl

theorem State.takeRequest_moves (s : State) (p : Station) (good : Bool) (code : Byte) (n : Nat) (ops : List Byte) :
    State.Moves s (s.takeRequest p good code n ops).1 := by
  unfold State.takeRequest
  split
  · exact .refl
  · next r _ =>
    have hfirst := s.countdownFirst_moves p r
    generalize s.countdownFirst p r = u at hfirst
    simp only
    split
    · exact hfirst
    · next hpass =>
      refine hfirst.trans (.ite_fst (fun hr => ?_) fun _ => ?_)
      · subst hr; exact .refl
      · refine .trans (State.Updates.moves (u.readyFor_updates r)) (serve_moves p ops _ r ?_ (u.readyFor_timingCome r))
        rw [State.registryRefusal_congr (u.readyFor_registry_eq r), hpass]

theorem State.setPort_moves (s : State) (p : Station) (q : Port) : State.Moves s (s.setPort p q) :=
  .one (.update (.port s p q))

theorem State.receiveByte_moves (s : State) (p : Station) (b : Byte) : State.Moves s (s.receiveByte p b) := by
  unfold State.receiveByte
  simp only
  split
  · exact s.setPort_moves _ _
  · exact s.setPort_moves _ _
  · exact s.setPort_moves _ _
  · exact .trans (s.takeRequest_moves _ _ _ _ _) (State.setPort_moves _ _ _)
  · exact .refl

theorem State.clockBit_moves (s : State) (p : Station) (b : Bool) : State.Moves s (s.clockBit p b) := by
  unfold State.clockBit
  simp only
  cases (s.ports.get p).phase with
  | code | length | operands | check => exact .ite (fun _ => s.setPort_moves _ _) fun _ => s.receiveByte_moves _ _
  | response => exact s.setPort_moves _ _
  | idle | trailing | overrun => exact .refl

theorem State.clockBits_moves (s : State) (p : Station) (l : List Bool) : State.Moves s (s.clockBits p l) :=
  .foldl (fun t b => t.clockBit_moves p b) l s

/-! ## The commands -/

theorem execLaneGrant_moves (s : State) : ∃ t, execLaneGrant s = .next t ∧ State.Moves s t := by
  refine ⟨_, rfl, .ite (fun h => ?_) fun _ => .refl⟩
  simp only [Bool.and_eq_true, List.contains_iff_mem, beq_iff_eq] at h
  obtain ⟨⟨hdue, hphase⟩, -⟩ := h
  exact State.Updates.moves (.trans (s.laneToArbitration_updates fun _ => hdue) (State.laneArbitrate_updates _ hphase))

theorem execHoldExpired_moves (s : State) : ∃ t, execHoldExpired s = .next t ∧ State.Moves s t := by
  refine ⟨_, rfl, ?_⟩
  split
  · refine .ite (fun h => ?_) fun _ => .refl
    simp only [Bool.and_eq_true, List.contains_iff_mem] at h
    exact State.Updates.moves (.trans (s.laneToHold_updates fun _ => h.1) (State.laneHoldCount_updates _ _))
  · exact .refl

theorem execTransferDelivery_moves (s : State) : ∃ t, execTransferDelivery s = .next t ∧ State.Moves s t := by
  refine ⟨_, rfl, .ite (fun h => ?_) fun _ => .refl⟩
  simp only [Bool.and_eq_true, List.contains_iff_mem] at h
  exact State.Updates.moves (s.laneTransferStep_updates h.1.1)

/-- Every command but HUB_RESET is a chain of updates, departures and boundaries. -/
theorem exec_acts (c : Instr) (s : State) (hreset : ∀ k, c ≠ .hubReset k) : ∃ t, exec c s = .next t ∧ State.Acts s t := by
  have hmoves : ∀ {o : Host.Outcome State Fault Refusal}, (∃ t, o = .next t ∧ State.Moves s t) →
      ∃ t, o = .next t ∧ State.Acts s t := fun ⟨t, ht, h⟩ => ⟨t, ht, State.Moves.acts h⟩
  cases c with
  | hubReset k => exact absurd rfl (hreset k)
  | internalTimerRunsOut order =>
    exact ⟨_, rfl, .ite (fun _ => .refl) fun _ => .trans s.internalTimer_acts (State.Moves.acts (State.takeWorks_moves _ _))⟩
  | frefEdge d order =>
    exact ⟨_, rfl, .trans (.trans (s.elapse_acts d) (State.edge_acts _)) (State.Moves.acts (State.takeWorks_moves _ _))⟩
  | substituteDeadline order =>
    exact ⟨_, rfl, .ite (fun _ => .trans s.substitute_acts (State.Moves.acts (State.takeWorks_moves _ _))) fun _ => .refl⟩
  | leaseExpiry n => exact hmoves ⟨_, rfl, .ite (fun _ => s.takeWork_moves _) fun _ => .refl⟩
  | endOfLeaving n => exact hmoves ⟨_, rfl, .ite (fun _ => s.takeWork_moves _) fun _ => .refl⟩
  | transferDelivery => exact hmoves (execTransferDelivery_moves s)
  | laneGrant => exact hmoves (execLaneGrant_moves s)
  | holdExpired => exact hmoves (execHoldExpired_moves s)
  | ackTimeout => exact hmoves ⟨_, rfl, .ite (fun _ => s.takeWork_moves _) fun _ => .refl⟩
  | selectionStart p => exact hmoves ⟨_, rfl, s.setPort_moves _ _⟩
  | selectionEnd p sdi => exact hmoves ⟨_, rfl, .trans (s.clockBits_moves p sdi) (State.setPort_moves _ _ _)⟩
  | selectionOverrun p sdi => exact hmoves ⟨_, rfl, .trans (s.clockBits_moves p sdi) (State.setPort_moves _ _ _)⟩
  | _ => exact hmoves ⟨_, rfl, s.clockBits_moves _ _⟩

/-! ## The principle -/

/-- What every act, a hub reset and the taking of a command from the queue keep, every step keeps. -/
theorem step_keeps_of_acts {P : State → Prop} (hact : ∀ s t, State.Act s t → P s → P t)
    (hpop : ∀ (s : State) (l : List Instr), P s → P { s with pending := l })
    (hreset : ∀ s k, P (State.afterReset s k)) : ∀ s t, P s → step s = .next t → P t := by
  intro s t hs h
  unfold step at h
  split at h
  · cases h; exact s.idle_acts.keeps hact hs
  · next c rest _ =>
    by_cases hc : ∃ k, c = .hubReset k
    · obtain ⟨k, rfl⟩ := hc
      cases h
      exact hreset _ k
    · obtain ⟨u, hu, hacts⟩ := exec_acts c { s with pending := rest } fun k hk => hc ⟨k, hk⟩
      cases hu.symm.trans h
      exact hacts.keeps hact (hpop s rest hs)

/-- A change of membership is the station's new record and then updates: what these keep, every act keeps. -/
theorem State.Act.keeps_of_updates {P : State → Prop} (hupdate : ∀ s t, State.Update s t → P s → P t)
    (hdeparted : ∀ (s : State) (n : Station) (x : StationState) (c : Cause), x.gone → P s →
      P (s.setStation n ((s.station n).departed x c)))
    (hleaving : ∀ (s : State) (n : Station), s.joined n = true → P s →
      P (s.setStation n { s.station n with state := .leaving }))
    (hboundary : ∀ (s : State) (made : Timer) (news : List Event), s.timingCome → (s.timer.law → made.law) →
      news.length ≤ 1 → P s → P (s.atBoundary made news)) (s t : State) (h : State.Act s t) (hs : P s) : P t := by
  cases h with
  | boundary made news hcome hlaw hnews => exact hboundary s made news hcome hlaw hnews hs
  | move h =>
    cases h with
    | update h => exact hupdate _ _ h hs
    | depart n x c st hx => exact (s.depart_updates n x c st).keeps hupdate (hdeparted s n x c hx hs)
    | leave n st hin => exact (s.leave_updates n st).keeps hupdate (hleaving s n hin hs)
    | endLeaving n st => exact (s.endLeaving_updates n st).keeps hupdate (hdeparted s n _ _ (.inl rfl) hs)

/-- What updates, new records of departing stations, boundaries and a hub reset keep, every step keeps. -/
theorem step_keeps_of_updates {P : State → Prop} (hupdate : ∀ s t, State.Update s t → P s → P t)
    (hdeparted : ∀ (s : State) (n : Station) (x : StationState) (c : Cause), x.gone → P s →
      P (s.setStation n ((s.station n).departed x c)))
    (hleaving : ∀ (s : State) (n : Station), s.joined n = true → P s →
      P (s.setStation n { s.station n with state := .leaving }))
    (hboundary : ∀ (s : State) (made : Timer) (news : List Event), s.timingCome → (s.timer.law → made.law) →
      news.length ≤ 1 → P s → P (s.atBoundary made news))
    (hpop : ∀ (s : State) (l : List Instr), P s → P { s with pending := l })
    (hreset : ∀ s k, P (State.afterReset s k)) : ∀ s t, P s → step s = .next t → P t :=
  step_keeps_of_acts (State.Act.keeps_of_updates hupdate hdeparted hleaving hboundary) hpop hreset

end Sys2Proof.Machine
end

section
/-! SUPPORT. The machine after a reset, the queue of waiting commands, the ends of a selection, one ring entry. -/

namespace Sys2Proof.Machine

/-! ## The reset state -/

@[simp] theorem State.reset_station (n : Station) : State.reset.station n = resetStation :=
  PerStation.get_all resetStation n

@[simp] theorem State.reset_present (n : Station) : State.reset.present n = false := by simp [State.present, resetStation]

@[simp] theorem State.reset_joined (n : Station) : State.reset.joined n = false := by simp [State.joined, resetStation]

@[simp] theorem State.reset_ring (n : Station) : State.reset.rings.get n = emptyRing := PerStation.get_all _ n

@[simp] theorem State.reset_queue (n : Station) (c : MsgClass) : State.reset.lane.queue n c = [] := by
  cases c <;> cases n <;> rfl

@[simp] theorem State.reset_received (n : Station) : State.reset.lane.rx.get n = [] := PerStation.get_all _ n

@[simp] theorem State.reset_acks (n : Station) : State.reset.acks.get n = [] := PerStation.get_all _ n

@[simp] theorem State.reset_events (n : Station) : State.reset.events.get n = emptyEvents := PerStation.get_all _ n

@[simp] theorem State.reset_timings (n : Station) : State.reset.timings.get n = [] := PerStation.get_all _ n

@[simp] theorem State.reset_port (n : Station) : State.reset.ports.get n = resetPort true := PerStation.get_all _ n

@[simp] theorem State.reset_ofSender (n : Station) : State.reset.lane.ofSender n = [] := by
  simp [Lane.ofSender, State.reset, resetLane, Lane.queue]

/-- Settles O4: the reset state field by field. -/
theorem resetValues : Obligations.ResetValues := by
  refine ⟨⟨rfl, rfl, rfl, rfl, rfl, rfl, rfl, rfl, rfl, rfl, rfl, rfl⟩, State.reset_station, ⟨rfl, rfl⟩, ⟨rfl, rfl⟩, rfl,
    State.reset_ring, fun n => ⟨State.reset_queue n _, State.reset_queue n _, State.reset_received n⟩,
    ⟨rfl, rfl, rfl, rfl, rfl, rfl⟩, State.reset_acks, fun n => ⟨State.reset_events n, ?_⟩, fun n => ?_⟩
  · simp [State.attention, emptyEvents]
  · simp [resetPort, Port.sdo]

theorem State.reset_timerLaw : State.reset.timer.law := by simp [Timer.law, State.reset, resetTimer]

theorem State.reset_registryLaw : State.reset.registryLaw :=
  ⟨by decide, fun n => by simp [resetStation], fun n m _ h => by simp at h⟩

theorem State.reset_mapLaw : State.reset.mapLaw := by
  refine ⟨rfl, fun e he => ?_, fun n => ?_⟩
  · obtain rfl := List.eq_of_mem_replicate he
    simp [SlotEntry.law, emptyEntry]
  · have hnone : producerCount State.reset.slotMap n = 0 := by
      simp [producerCount, State.reset, SlotEntry.producedBy, emptyEntry]
    omega

theorem State.reset_changesLaw : State.reset.changesLaw := by
  refine ⟨by decide, by decide, fun n => ?_, fun c hc => ?_⟩
  · simp [State.reset, quotaCount]
  · simp [State.reset] at hc

theorem State.reset_exchangeLaw : State.reset.exchangeLaw := by
  refine ⟨rfl, fun x hx => ?_, fun n => ?_⟩
  · obtain rfl := List.eq_of_mem_replicate hx
    decide
  · rw [State.reset_ring]; decide

theorem State.reset_laneLaw : State.reset.laneLaw := by
  refine ⟨fun n => ?_, fun n c m hm => ?_, fun n c => ?_, fun n => ?_, trivial, by decide, trivial, fun n => ?_, ?_⟩
  · simp
  · simp at hm
  · simp
  · simp [Lane.reserved, Lane.reservedAt, State.reset, resetLane]
  · simp
  · exact absurd rfl

theorem State.reset_acksLaw : State.reset.acksLaw := fun n => by simp

theorem State.reset_eventsLaw : State.reset.eventsLaw := fun n => by simp [EventQueue.law, emptyEvents]

theorem State.reset_membershipLaw : State.reset.membershipLaw := by
  refine ⟨fun n => ⟨fun _ => ?_, fun _ => ?_⟩, fun n c m hm => by simp at hm⟩
  · refine ⟨by simp [resetStation], by simp [resetStation], by simp [resetStation], by simp [resetStation], fun e he => ?_,
      State.reset_ring n, State.reset_received n, rfl, State.reset_events n, State.reset_timings n⟩
    obtain rfl := List.eq_of_mem_replicate he
    exact ⟨trivial, by simp [emptyEntry]⟩
  · refine ⟨State.reset_queue n _, State.reset_queue n _, State.reset_acks n, fun c hc => ?_, ?_⟩
    · simp [State.reset] at hc
    · simp [State.reset]

/-- Settles O60. -/
theorem lawsHoldAtReset : Obligations.LawsHoldAtReset :=
  ⟨State.reset_timerLaw, State.reset_registryLaw, State.reset_mapLaw, State.reset_changesLaw, State.reset_exchangeLaw,
    State.reset_laneLaw, State.reset_acksLaw, State.reset_eventsLaw, State.reset_membershipLaw⟩

/-- Settles O5: every block is the reset state's, each port but for the level of its SEL#. -/
theorem hubResetFromAnyState : Obligations.HubResetFromAnyState := by
  intro cause s
  refine ⟨_, rfl, rfl, rfl, rfl, rfl, rfl, rfl, rfl, rfl, rfl, rfl, rfl, rfl, fun n => ?_⟩
  rw [State.reset_port]
  exact PerStation.get_map s.ports _ n

/-! ## The queue of waiting commands -/

/-- Settles O1. -/
theorem stepRunsTheFrontCommand : Obligations.StepRunsTheFrontCommand := fun _ _ _ => rfl

theorem State.passTo_quiet (s : State) (h : s.due = []) (i : Nat) :
    s.passTo i = s.setTimer (s.timer.at (max s.timer.now i)) := by
  rw [State.passTo, s.settle_none h]

theorem State.idle_quiet (s : State) (h : s.due = []) :
    s.idle = if s.timer.deadline ≤ s.timer.now then s.ownBoundary else s.passTo (s.timer.now + 1) := by
  have hnone : (boundaryWorks true).find? (fun w => s.due.contains w) = none := by simp [h]
  unfold State.idle
  rw [hnone]

/-- Settles O2: with nothing waiting and nothing due the hub looks at its deadline alone. -/
theorem emptyQueueLetsTimePass : Obligations.EmptyQueueLetsTimePass := by
  intro s hpending hdue
  have hstep : step s = .next s.idle := by unfold step; rw [hpending]
  rw [hstep, s.idle_quiet hdue]
  refine ⟨fun hahead => ?_, fun hcome => by rw [if_pos hcome]⟩
  rw [if_neg (not_le.mpr hahead), s.passTo_quiet hdue, Nat.max_eq_right (Nat.le_succ _), Timer.at]
  have hlater : (s.timer.now + 1 == s.timer.now) = false := by simp
  rw [hlater, Bool.and_false]

theorem State.Update.pending {s t : State} (h : State.Update s t) : t.pending = s.pending := by
  cases h with
  | raise n st e => rw [State.raise_eq]; rfl
  | timings => rw [State.raiseTimings_eq]; rfl
  | _ => rfl

/-- The acts are the hub's own: none touches the queue of waiting commands. -/
theorem State.Acts.pending {s t : State} (h : State.Acts s t) : t.pending = s.pending :=
  h.keeps (P := fun u => u.pending = s.pending)
    (State.Act.keeps_of_updates (fun _ _ hu hs => hu.pending.trans hs) (fun _ _ _ _ _ hs => hs) (fun _ _ _ hs => hs)
      (fun _ _ _ _ _ _ hs => hs)) rfl

theorem State.Update.resetCause {s t : State} (h : State.Update s t) : t.registry.resetCause = s.registry.resetCause := by
  cases h with
  | raise n st e => rw [State.raise_eq]; rfl
  | timings => rw [State.raiseTimings_eq]; rfl
  | _ => rfl

/-- Only a hub reset writes the reset cause (R19). -/
theorem State.Acts.resetCause {s t : State} (h : State.Acts s t) : t.registry.resetCause = s.registry.resetCause :=
  h.keeps (P := fun u => u.registry.resetCause = s.registry.resetCause)
    (State.Act.keeps_of_updates (fun _ _ hu hs => hu.resetCause.trans hs) (fun _ _ _ _ _ hs => hs) (fun _ _ _ hs => hs)
      (fun _ _ _ _ _ _ hs => hs)) rfl

/-- Settles O3: every command but HUB_RESET is a chain of acts, and these leave both alone. -/
theorem commandsKeepTheQueueAndTheResetCause : Obligations.CommandsKeepTheQueueAndTheResetCause := by
  refine ⟨fun c s t h => ?_, fun c s t h hc => ?_, fun k s t h => ?_, fun s t u ht hu => ?_⟩
  · by_cases hc : ∃ k, c = .hubReset k
    · obtain ⟨k, rfl⟩ := hc
      cases h
      rfl
    · obtain ⟨v, hv, hacts⟩ := exec_acts c s fun k hk => hc ⟨k, hk⟩
      cases hv.symm.trans h
      exact hacts.pending
  · obtain ⟨v, hv, hacts⟩ := exec_acts c s hc
    cases hv.symm.trans h
    exact hacts.resetCause
  · cases h; rfl
  · cases ht; cases hu; rfl

/-! ## The ends of a selection (R159, R160) -/

/-- Settles O51. -/
theorem selectionStartsAndEnds : Obligations.SelectionStartsAndEnds := by
  intro s p
  refine ⟨fun hhigh => ?_, fun hlow => ?_, ?_⟩
  · have hfall : (s.ports.get p).fall = _ := if_pos hhigh
    refine ⟨_, rfl, ?_, by rw [hfall], ?_⟩ <;> rw [hfall] <;> simp [State.selected, Port.sdo]
  · have hkept : s.setPort p (s.ports.get p).fall = s := by rw [Port.fall, if_neg (by simp [hlow])]; simp [State.setPort]
    exact congrArg Host.Outcome.next hkept
  · exact ⟨_, rfl, rfl, by simp [State.clockBits, Port.rise, Port.sdo]⟩

/-! ## One ring entry (R96, R98) -/

/-- A record raised to one member is told to it alone. -/
theorem State.raise_told {s : State} {n : Station} (hin : s.present n = true) (st : Stamp) (e : Event) :
    s.raise n st e = s.told (fun m => decide (m = n)) st e := by
  have hevents : s.events.set n ((s.events.get n).append { stamp := st, event := e }) =
      s.events.map (fun m q => if decide (m = n) then q.append { stamp := st, event := e } else q) :=
    PerStation.ext_get fun m => by rw [PerStation.get_set, PerStation.get_map]; by_cases h : m = n <;> simp [h]
  rw [State.raise_of_present hin, State.setQueue, State.told, hevents]

/-- Settles O33. -/
theorem ringAppendOrDrop : Obligations.RingAppendOrDrop := by
  intro s n e hin
  refine ⟨fun hroom hlevel => ?_, fun hroom hlevel => ?_, fun hfull hgap => ?_, fun hfull hgap hmax => ?_⟩
  · rw [State.appendRing, if_pos hroom, if_neg hlevel]
  · rw [State.appendRing, if_pos hroom, if_pos hlevel]
    exact State.raise_told (s := s.setRing n _) hin _ _
  · rw [State.appendRing, if_neg (not_lt.mpr hfull), if_pos hgap, hgap]
    exact State.raise_told (s := s.setRing n _) hin _ _
  · have hsucc : saturatingSucc (s.rings.get n).gap = min 255 ((s.rings.get n).gap + 1) := by
      unfold saturatingSucc
      simp only [Config.saturation]
      split <;> omega
    rw [State.appendRing, if_neg (not_lt.mpr hfull), if_neg (by omega), hsucc]

end Sys2Proof.Machine
end

section
/-! SUPPORT. The laws of the timer, the registry, the change list, the acknowledgement table and the exchange, update by
update. -/

namespace Sys2Proof.Machine

/-! ## One station's record replaced -/

theorem State.setStation_station (s : State) (n m : Station) (r : StationRec) :
    (s.setStation n r).station m = if m = n then r else s.station m := PerStation.get_set _ _ _ _

theorem State.setStation_present (s : State) (n m : Station) (r : StationRec) :
    (s.setStation n r).present m = if m = n then r.state == .joined || r.state == .leaving else s.present m := by
  rw [State.present, State.setStation_station]
  split <;> rfl

theorem State.setStation_joined (s : State) (n m : Station) (r : StationRec) :
    (s.setStation n r).joined m = if m = n then r.state == .joined else s.joined m := by
  rw [State.joined, State.setStation_station]
  split <;> rfl

/-! ## The timer and the registry -/

theorem State.Update.timerLaw (s t : State) (h : State.Update s t) (hs : s.timer.law) : t.timer.law := by
  cases h with
  | retime t hlaw => exact hlaw hs
  | raise n st e => rw [State.raise_eq]; exact hs
  | timings => rw [State.raiseTimings_eq]; exact hs
  | _ => exact hs

/-- The range of a record's lease values, and a name of its own if it is a member's. -/
theorem State.registryLaw_setStation {s : State} (hs : s.registryLaw) {n : Station} {r : StationRec}
    (hcounter : r.leaseCounter ≤ 255) (hperiod : 8 ≤ r.leasePeriod ∧ r.leasePeriod ≤ 255)
    (hpos : r.state = .joined → 1 ≤ r.leaseCounter)
    (hname : r.state = .joined ∨ r.state = .leaving → ∀ k, k ≠ n → s.present k = true → (s.station k).name ≠ r.name) :
    (s.setStation n r).registryLaw := by
  obtain ⟨hsetting, hrange, hnames⟩ := hs
  refine ⟨hsetting, fun m => ?_, fun a b hab ha hb => ?_⟩
  · rw [State.setStation_station, State.setStation_joined]
    by_cases hm : m = n
    · simp only [hm, if_true, beq_iff_eq]
      exact ⟨hcounter, hperiod.1, hperiod.2, hpos⟩
    · simp only [hm, if_false]
      exact hrange m
  · rw [State.setStation_present] at ha hb
    rw [State.setStation_station, State.setStation_station]
    by_cases han : a = n <;> by_cases hbn : b = n <;>
      simp only [han, hbn, if_true, if_false, Bool.or_eq_true, beq_iff_eq] at ha hb ⊢
    · exact absurd (han.trans hbn.symm) hab
    · exact (hname ha b hbn hb).symm
    · exact hname hb a han ha
    · exact hnames a b hab ha hb

/-- A member's record with another lease counter, token or sequence counter. -/
theorem State.registryLaw_kept {s : State} (hs : s.registryLaw) {n : Station} (hin : s.present n = true) {r : StationRec}
    (hcounter : r.leaseCounter ≤ 255) (hperiod : 8 ≤ r.leasePeriod ∧ r.leasePeriod ≤ 255)
    (hpos : r.state = .joined → 1 ≤ r.leaseCounter) (hname : r.name = (s.station n).name) :
    (s.setStation n r).registryLaw :=
  State.registryLaw_setStation hs hcounter hperiod hpos fun _ k hk hkin => hname ▸ hs.2.2 k n hk hkin hin

theorem State.nameHeld_eq_false {s : State} {n : Station} {x : Name} (h : s.nameHeld n x = false) (k : Station)
    (hk : k ≠ n) (hin : s.present k = true) : (s.station k).name ≠ x := by
  have := List.any_eq_false.mp h k (mem_stations k)
  simpa [hk, hin] using this

theorem State.Update.registryLaw (s t : State) (h : State.Update s t) (hs : s.registryLaw) : t.registryLaw := by
  obtain ⟨hsetting, hrange, hnames⟩ := id hs
  cases h with
  | join p name hout hname =>
    exact State.registryLaw_setStation hs hsetting.2 hsetting (fun _ => show 1 ≤ s.registry.leaseSetting by omega)
      fun _ => State.nameHeld_eq_false hname
  | renew p tok hin =>
    exact State.registryLaw_kept hs (State.present_of_joined hin) hsetting.2 hsetting
      (fun _ => show 1 ≤ s.registry.leaseSetting by omega) rfl
  | lease n k hin hpos hle =>
    obtain ⟨hcounter, hmin, hmax, -⟩ := hrange n
    exact State.registryLaw_kept hs (State.present_of_joined hin) (show k ≤ 255 by omega) ⟨hmin, hmax⟩ (fun _ => hpos) rfl
  | seq p b hin =>
    obtain ⟨hcounter, hmin, hmax, hjoined⟩ := hrange p
    exact State.registryLaw_kept hs (State.present_of_joined hin) hcounter ⟨hmin, hmax⟩ (fun _ => hjoined hin) rfl
  | setting k hmin hmax => exact ⟨⟨hmin, hmax⟩, hrange, hnames⟩
  | raise n st e => rw [State.raise_eq]; exact hs
  | timings => rw [State.raiseTimings_eq]; exact hs
  | _ => exact hs

theorem State.registryLaw_departed (s : State) (n : Station) (x : StationState) (c : Cause) (hx : x.gone)
    (hs : s.registryLaw) : (s.setStation n ((s.station n).departed x c)).registryLaw := by
  obtain ⟨-, hrange, -⟩ := id hs
  obtain ⟨-, hmin, hmax, -⟩ := hrange n
  refine State.registryLaw_setStation hs (Nat.zero_le _) ⟨hmin, hmax⟩ (fun h => ?_) fun h => ?_
  · rcases hx with rfl | rfl <;> cases h
  · rcases hx with rfl | rfl <;> rcases h with h | h <;> cases h

theorem State.registryLaw_leaving (s : State) (n : Station) (hin : s.joined n = true) (hs : s.registryLaw) :
    (s.setStation n { s.station n with state := .leaving }).registryLaw := by
  obtain ⟨-, hrange, -⟩ := id hs
  obtain ⟨hcounter, hmin, hmax, -⟩ := hrange n
  exact State.registryLaw_kept hs (State.present_of_joined hin) hcounter ⟨hmin, hmax⟩ nofun rfl

/-- Settles O53: the timer's law by its own updates and boundaries, the registry's by the records they write. -/
theorem stepKeepsTheTimerAndRegistryLaws : Obligations.StepKeepsTheTimerAndRegistryLaws :=
  ⟨fun s t hs h => step_keeps_of_updates (P := fun s => s.timer.law) State.Update.timerLaw (fun _ _ _ _ _ hs => hs)
      (fun _ _ _ hs => hs) (fun _ _ _ _ hlaw _ hs => Timer.law_pendingTaken (hlaw hs)) (fun _ _ hs => hs)
      (fun _ _ => State.reset_timerLaw) s t hs h,
    fun s t hs h => step_keeps_of_updates (P := State.registryLaw) State.Update.registryLaw State.registryLaw_departed
      State.registryLaw_leaving (fun _ _ _ _ _ _ hs => hs) (fun _ _ hs => hs) (fun _ _ => State.reset_registryLaw) s t hs h⟩

/-! ## The change list -/

/-- The id of a new entry is the lowest from 0 to 23 that no entry has (R55). -/
theorem freeId_spec (l : List Change) (h : l.length < 24) :
    freeId l < 24 ∧ (∀ c ∈ l, c.id ≠ freeId l) ∧ ∀ j < freeId l, ∃ c ∈ l, c.id = j := by
  unfold freeId
  cases hfind : (List.range Config.changeListLimit).find? (fun i => l.all (fun c => c.id ≠ i)) with
  | some i =>
    obtain ⟨hfree, hlt, hlow⟩ := List.find?_range_eq_some.mp hfind
    refine ⟨List.mem_range.mp hlt, fun c hc => ?_, fun j hj => ?_⟩
    · simpa using List.all_eq_true.mp hfree c hc
    · simpa using hlow j hj
  | none =>
    have hsub : List.range 24 ⊆ l.map (fun c => c.id) := fun i hi => by
      simpa using List.find?_range_eq_none.mp hfind i (List.mem_range.mp hi)
    have hle := (List.subperm_of_subset List.nodup_range hsub).length_le
    simp only [List.length_range, List.length_map] at hle
    omega

theorem State.stagingRefusal_none {s : State} {o : Option Station} (h : s.stagingRefusal o = none) :
    s.changes.length < 24 ∧ ∀ n ∈ o, quotaCount s.changes n < 8 := by
  unfold State.stagingRefusal at h
  split_ifs at h with hfull
  refine ⟨not_le.mp hfull, fun n hn => ?_⟩
  cases hn
  simpa [Config.quotaLimit] using h

theorem quotaCount_sublist {l k : List Change} (h : l.Sublist k) (n : Station) : quotaCount l n ≤ quotaCount k n :=
  (h.filter _).length_le

theorem quotaCount_append_one (l : List Change) (c : Change) (n : Station) :
    quotaCount (l ++ [c]) n = quotaCount l n + (if c.origin = some n then 1 else 0) := by
  unfold quotaCount
  by_cases h : c.origin = some n <;> simp [h]

theorem State.changesLaw_stage {s : State} (hs : s.changesLaw) {o : Option Station} {k : ChangeKind} {j : Nat}
    (hroom : s.stagingRefusal o = none) (hj : j < 48) (hk : o = none ↔ k = .forceRelease) : (s.stage o k j).changesLaw := by
  obtain ⟨-, hids, hquota, hall⟩ := hs
  obtain ⟨hlength, hmine⟩ := State.stagingRefusal_none hroom
  obtain ⟨hlt, hnew, -⟩ := freeId_spec s.changes hlength
  refine ⟨?_, ?_, fun n => ?_, fun c hc => ?_⟩
  · simpa [State.stage] using hlength
  · simp only [State.stage, State.setChanges_changes, List.map_append, List.map_cons, List.map_nil]
    refine List.nodup_append.mpr ⟨hids, List.nodup_singleton _, fun a ha b hb => ?_⟩
    obtain ⟨c, hc, rfl⟩ := List.mem_map.mp ha
    rw [List.mem_singleton.mp hb]
    exact hnew c hc
  · have hn := hquota n
    rw [State.stage, State.setChanges_changes, quotaCount_append_one]
    split
    · next ho => have := hmine n ho; omega
    · omega
  · rcases List.mem_append.mp hc with hc | hc
    · exact hall c hc
    · rw [List.mem_singleton.mp hc]
      exact ⟨hlt, hj, hk⟩

theorem State.Update.changesLaw (s t : State) (h : State.Update s t) (hs : s.changesLaw) : t.changesLaw := by
  cases h with
  | fewerChanges l hl =>
    obtain ⟨hlength, hids, hquota, hall⟩ := hs
    exact ⟨hl.length_le.trans hlength, hids.sublist (hl.map _), fun n => (quotaCount_sublist hl n).trans (hquota n),
      fun c hc => hall c (hl.subset hc)⟩
  | stage o k j hroom hj hk hin => exact State.changesLaw_stage hs hroom hj hk
  | raise n st e => rw [State.raise_eq]; exact hs
  | timings => rw [State.raiseTimings_eq]; exact hs
  | _ => exact hs

/-- Settles O55: an entry joins the list below its limits, with a free id, and otherwise entries only go. -/
theorem stepKeepsTheChangeListLaw : Obligations.StepKeepsTheChangeListLaw :=
  step_keeps_of_updates (P := State.changesLaw) State.Update.changesLaw (fun _ _ _ _ _ hs => hs) (fun _ _ _ hs => hs)
    (fun _ _ _ _ _ _ hs => hs) (fun _ _ hs => hs) (fun _ _ => State.reset_changesLaw)

/-! ## The acknowledgement table -/

/-- One list of entries within its law. -/
def acksListLaw (n : Station) (l : List AckEntry) : Prop :=
  l.length ≤ 4 ∧ (l.map (fun a => a.seq)).Nodup ∧ ∀ a ∈ l, a.dest ≠ n

/-- Entries gone, or changed in their states alone. -/
theorem acksListLaw_of_sublist {n : Station} {l k : List AckEntry} (hk : acksListLaw n k)
    (h : (l.map AckEntry.identity).Sublist (k.map AckEntry.identity)) : acksListLaw n l := by
  obtain ⟨hlength, hseqs, hdest⟩ := hk
  refine ⟨by simpa using h.length_le.trans (by simpa using hlength), ?_, fun a ha => ?_⟩
  · have hmap := h.map Prod.fst
    rw [List.map_map, List.map_map] at hmap
    exact hseqs.sublist hmap
  · obtain ⟨b, hb, hab⟩ := List.mem_map.mp (h.subset (List.mem_map_of_mem ha))
    have : b.dest = a.dest := congrArg Prod.snd hab
    exact this ▸ hdest b hb

theorem acksListLaw_append {n : Station} {l : List AckEntry} (hl : acksListLaw n l) {a : AckEntry} (hroom : l.length < 4)
    (hfree : ∀ b ∈ l, b.seq ≠ a.seq) (ha : a.dest ≠ n) : acksListLaw n (l ++ [a]) := by
  obtain ⟨-, hseqs, hdest⟩ := hl
  refine ⟨by simpa using hroom, ?_, fun b hb => ?_⟩
  · rw [List.map_append]
    refine List.nodup_append.mpr ⟨hseqs, List.nodup_singleton _, fun x hx y hy => ?_⟩
    obtain ⟨b, hb, rfl⟩ := List.mem_map.mp hx
    rw [List.mem_singleton.mp hy]
    exact hfree b hb
  · rcases List.mem_append.mp hb with hb | hb
    · exact hdest b hb
    · rw [List.mem_singleton.mp hb]; exact ha

theorem State.Update.acksLaw (s t : State) (h : State.Update s t) (hs : s.acksLaw) : t.acksLaw := by
  cases h with
  | fewerAcks a ha => exact fun n => acksListLaw_of_sublist (hs n) (ha n)
  | ackCreate n q tag d timeout hin hroom hfree hd =>
    intro m
    simp only [State.ackCreate, State.setAckList, State.setAcks_acks, PerStation.get_set]
    split
    · next hm => exact hm ▸ acksListLaw_append (hs n) hroom hfree hd
    · exact hs m
  | raise n st e => rw [State.raise_eq]; exact hs
  | timings => rw [State.raiseTimings_eq]; exact hs
  | _ => exact hs

/-- Settles O58: an entry is made with room in the table and a free sequence number, and otherwise entries only go. -/
theorem stepKeepsTheAckLaw : Obligations.StepKeepsTheAckLaw :=
  step_keeps_of_updates (P := State.acksLaw) State.Update.acksLaw (fun _ _ _ _ _ hs => hs) (fun _ _ _ hs => hs)
    (fun _ _ _ _ _ _ hs => hs) (fun _ _ hs => hs) (fun _ _ => State.reset_acksLaw)

end Sys2Proof.Machine
end

section
/-! SUPPORT. The laws of the slot exchange and of the event queues, update by update. -/

namespace Sys2Proof.Machine

/-! ## The slots of the exchange -/

theorem saturatingSucc_le (n : Nat) : saturatingSucc n ≤ 255 := by
  unfold saturatingSucc
  simp only [Config.saturation]
  split <;> omega

/-- 48 slots with ages in their range (R76). -/
def slotsLaw (l : List SlotState) : Prop := l.length = 48 ∧ ∀ x ∈ l, x.age ≤ 255

theorem slotsLaw_set {l : List SlotState} (h : slotsLaw l) (k : Nat) {x : SlotState} (hx : x.age ≤ 255) :
    slotsLaw (l.set k x) := by
  refine ⟨by rw [List.length_set]; exact h.1, fun y hy => ?_⟩
  rcases List.mem_or_eq_of_mem_set hy with hy | rfl
  · exact h.2 y hy
  · exact hx

theorem slotsLaw_getD {l : List SlotState} (h : slotsLaw l) (k : Nat) : (l.getD k resetSlot).age ≤ 255 := by
  rcases Nat.lt_or_ge k l.length with hk | hk
  · rw [List.getD_eq_getElem _ _ hk]; exact h.2 _ (List.getElem_mem hk)
  · rw [List.getD_eq_default _ _ hk]; exact Nat.zero_le _

theorem latchedSlot_age (e : SlotEntry) (st : Stamp) (x : SlotState) : (latchedSlot e st x).age ≤ 255 := by
  unfold latchedSlot
  split
  · exact Nat.zero_le _
  · split
    · exact Nat.zero_le _
    · exact saturatingSucc_le _

theorem slotsLaw_onSlots {l : List SlotState} (h : slotsLaw l) (c : Change) (st : Stamp) : slotsLaw (c.onSlots st l) := by
  unfold Change.onSlots
  cases c.kind with
  | claim | release | forceRelease => exact slotsLaw_set h _ (Nat.zero_le 255)
  | subscribe | unsubscribe => exact h

theorem slotsLaw_cleared {l : List SlotState} (h : slotsLaw l) (f : Nat → Bool) (st : Stamp) :
    slotsLaw (l.zipIdx.map (fun x => if f x.2 then clearedSlot st else x.1)) := by
  refine ⟨by simpa using h.1, fun y hy => ?_⟩
  obtain ⟨⟨x, k⟩, hx, rfl⟩ := List.mem_map.mp hy
  simp only
  split
  · exact Nat.zero_le _
  · exact h.2 x (List.fst_mem_of_mem_zipIdx hx)

/-! ## The rings -/

/-- A ring within its capacity, counts and watermark (R91). -/
def Ring.law (r : Ring) : Prop :=
  r.entries.length ≤ 64 ∧ r.gap ≤ 255 ∧ 1 ≤ r.watermark ∧ r.watermark ≤ 63 ∧ ∀ e ∈ r.entries, e.slot < 48 ∧ e.gap ≤ 255

theorem Ring.law_logged {r : Ring} (h : r.law) {e : RingEntry} (he : e.slot < 48) : (r.logged e).law := by
  obtain ⟨hlength, hgap, hmin, hmax, hall⟩ := h
  unfold Ring.logged
  split
  · next hroom =>
    refine ⟨by simpa using hroom, Nat.zero_le _, hmin, hmax, fun x hx => ?_⟩
    rcases List.mem_append.mp hx with hx | hx
    · exact hall x hx
    · rw [List.mem_singleton.mp hx]; exact ⟨he, hgap⟩
  · exact ⟨hlength, saturatingSucc_le _, hmin, hmax, hall⟩

theorem Ring.law_drop {r : Ring} (h : r.law) (k : Nat) : Ring.law { r with entries := r.entries.drop k } := by
  obtain ⟨hlength, hgap, hmin, hmax, hall⟩ := h
  refine ⟨?_, hgap, hmin, hmax, fun e he => hall e (List.mem_of_mem_drop he)⟩
  rw [List.length_drop]
  omega

theorem State.exchangeLaw_iff (s : State) : s.exchangeLaw ↔ slotsLaw s.slots ∧ ∀ n, (s.rings.get n).law := by
  simp only [State.exchangeLaw, slotsLaw, Ring.law, and_assoc]

theorem State.exchangeLaw_setSlots {s : State} (hs : s.exchangeLaw) {l : List SlotState} (h : slotsLaw l) :
    (s.setSlots l).exchangeLaw := (State.exchangeLaw_iff _).mpr ⟨h, (s.exchangeLaw_iff.mp hs).2⟩

theorem State.exchangeLaw_setRing {s : State} (hs : s.exchangeLaw) (n : Station) {r : Ring} (h : r.law) :
    (s.setRing n r).exchangeLaw := by
  obtain ⟨hslots, hrings⟩ := s.exchangeLaw_iff.mp hs
  refine (State.exchangeLaw_iff _).mpr ⟨hslots, fun m => ?_⟩
  rw [State.setRing_rings, PerStation.get_set]
  split
  · exact h
  · exact hrings m

theorem State.Update.exchangeLaw (s t : State) (h : State.Update s t) (hs : s.exchangeLaw) : t.exchangeLaw := by
  obtain ⟨hslots, hrings⟩ := s.exchangeLaw_iff.mp hs
  cases h with
  | removals => exact State.exchangeLaw_setSlots (s := s.setSlotMap _) hs (slotsLaw_cleared hslots (fun k => (s.entry k).producerDue) _)
  | change c hc hok => exact State.exchangeLaw_setSlots (s := s.setSlotMap _) hs (slotsLaw_onSlots hslots c _)
  | latchSlot k => exact State.exchangeLaw_setSlots hs (slotsLaw_set hslots k (latchedSlot_age _ _ _))
  | publish x => exact State.exchangeLaw_setSlots hs (slotsLaw_set hslots x.1 (slotsLaw_getD hslots x.1))
  | log n e hslot hlive => exact State.exchangeLaw_setRing hs n (Ring.law_logged (hrings n) hslot)
  | drain p k hin => exact State.exchangeLaw_setRing hs p (Ring.law_drop (hrings p) k)
  | watermark p k hin hmin hmax =>
    obtain ⟨hlength, hgap, -, -, hall⟩ := hrings p
    exact State.exchangeLaw_setRing hs p ⟨hlength, hgap, hmin, hmax, hall⟩
  | clearRing n => exact State.exchangeLaw_setRing hs n ⟨by decide, by decide, by decide, by decide, nofun⟩
  | raise n st e => rw [State.raise_eq]; exact hs
  | timings => rw [State.raiseTimings_eq]; exact hs
  | _ => exact hs

/-! ## The event queues -/

theorem EventQueue.law_append {q : EventQueue} (h : q.law) (r : EventRecord) : (q.append r).law := by
  obtain ⟨hlength, hlost⟩ := h
  cases hl : q.lost with
  | some x =>
    rw [EventQueue.append_of_lost r hl]
    refine ⟨hlength, ?_⟩
    show 1 ≤ min 255 (x.count + 1) ∧ min 255 (x.count + 1) ≤ 255
    omega
  | none =>
    rcases Nat.lt_or_ge q.records.length Config.ordinaryCapacity with hroom | hfull
    · rw [EventQueue.append_of_room r hl hroom]
      exact ⟨by simpa using hroom, by rw [hl]; trivial⟩
    · rw [EventQueue.append_of_full r hl hfull]
      exact ⟨hlength, Nat.le_refl 1, Nat.le_of_ble_eq_true rfl⟩

theorem State.raise_queueLaw {s : State} (h : ∀ n, (s.events.get n).law) (n : Station) (st : Stamp) (e : Event) (m : Station) :
    ((s.raise n st e).events.get m).law := by
  cases hn : s.present n with
  | false => rw [State.raise_of_not_present hn]; exact h m
  | true =>
    rw [State.raise_of_present hn, State.setQueue_events, PerStation.get_set]
    split
    · exact EventQueue.law_append (h n) _
    · exact h m

theorem State.raiseAll_queueLaw {s : State} (h : ∀ n, (s.events.get n).law) (st : Stamp) (l : List (Station × Event)) :
    ∀ m, ((s.raiseAll st l).events.get m).law := by
  unfold State.raiseAll
  induction l generalizing s with
  | nil => exact h
  | cons x l ih => exact ih (State.raise_queueLaw h x.1 st x.2)

/-- The law of the event queues while the stations of `f` are between two states of a departure. -/
def State.eventsLawBut (f : Station → Prop) (s : State) : Prop :=
  ∀ n, (s.events.get n).law ∧ (s.timings.get n).length ≤ 2 ∧
    (s.timings.get n ≠ [] → Work.timing ∈ s.due ∧ (f n ∨ s.joined n = true))

theorem State.eventsLaw_iff (s : State) : s.eventsLaw ↔ s.eventsLawBut (fun _ => False) := by
  simp only [State.eventsLaw, State.eventsLawBut, false_or]

theorem State.eventsLawBut_setStation {f : Station → Prop} {s : State} (hs : s.eventsLawBut f) (n : Station)
    (r : StationRec) (h : s.joined n = true → r.state = .joined ∨ f n) : (s.setStation n r).eventsLawBut f := by
  intro m
  obtain ⟨hqueue, hlength, hwaits⟩ := hs m
  refine ⟨hqueue, hlength, fun hne => ?_⟩
  obtain ⟨hdue, hjoined⟩ := hwaits hne
  refine ⟨hdue, ?_⟩
  rw [State.setStation_joined]
  split
  · next hm =>
    subst hm
    rcases hjoined with hf | hjoined
    · exact .inl hf
    · exact (h hjoined).symm.imp id fun hr => by simp [hr]
  · exact hjoined

theorem State.eventsLawBut_due {f : Station → Prop} {s t : State} (hs : s.eventsLawBut f) (hevents : t.events = s.events)
    (htimings : t.timings = s.timings) (hregistry : t.registry = s.registry)
    (hdue : Work.timing ∈ s.due → Work.timing ∈ t.due) : t.eventsLawBut f := by
  intro m
  rw [hevents, htimings, show t.joined m = s.joined m by simp only [State.joined, State.station, hregistry]]
  obtain ⟨hqueue, hlength, hwaits⟩ := hs m
  exact ⟨hqueue, hlength, fun hne => (hwaits hne).imp hdue id⟩

theorem State.eventsLawBut_raised {f : Station → Prop} {s : State} (hs : s.eventsLawBut f) {v : PerStation EventQueue}
    (h : ∀ n, (v.get n).law) : (s.setEvents v).eventsLawBut f := fun n => ⟨h n, (hs n).2⟩

theorem State.Update.eventsLawBut {f : Station → Prop} (s t : State) (h : State.Update s t) (hs : s.eventsLawBut f) :
    t.eventsLawBut f := by
  have hqueues : ∀ n, (s.events.get n).law := fun n => (hs n).1
  cases h with
  | timings =>
    intro n
    refine ⟨State.raiseAll_queueLaw (s := s.dropWork .timing) hqueues _ _ n, ?_⟩
    rw [State.raiseTimings_eq]
    cases n <;> exact ⟨Nat.zero_le _, nofun⟩
  | drop w hlane htiming => exact State.eventsLawBut_due hs rfl rfl rfl (List.mem_erase_of_ne htiming.symm).mpr
  | laneDone => exact State.eventsLawBut_due hs rfl rfl rfl (List.mem_erase_of_ne (show Work.timing ≠ Work.lane by decide)).mpr
  | raise n st e => rw [State.raise_eq]; exact State.eventsLawBut_raised hs (State.raise_queueLaw hqueues n st e)
  | queue p q hin hlaw =>
    refine State.eventsLawBut_raised hs fun n => ?_
    rw [PerStation.get_set]
    split
    · exact hlaw (hqueues p)
    · exact hqueues n
  | emptyQueue n =>
    intro m
    simp only [State.emptyQueue, State.setTimings_events, State.setQueue_events, State.setTimings_timings,
      PerStation.get_set]
    split
    · exact ⟨⟨by decide, trivial⟩, Nat.zero_le _, nofun⟩
    · exact hs m
  | join p name hout hname => exact State.eventsLawBut_setStation hs p _ fun _ => .inl rfl
  | renew p tok hin => exact State.eventsLawBut_setStation hs p _ fun _ => .inl (by simpa [State.joined] using hin)
  | lease n k hin hpos hle => exact State.eventsLawBut_setStation hs n _ fun _ => .inl (by simpa [State.joined] using hin)
  | seq p b hin => exact State.eventsLawBut_setStation hs p _ fun _ => .inl (by simpa [State.joined] using hin)
  | _ => exact hs

/-- A departure ends with the station's queue emptied, so that nothing waits for it. -/
theorem State.depart_timings (s : State) (n : Station) (x : StationState) (c : Cause) (st : Stamp) :
    (s.depart n x c st).timings.get n = [] := PerStation.get_set_same _ _ _

theorem State.endLeaving_timings (s : State) (n : Station) (st : Stamp) : (s.endLeaving n st).timings.get n = [] :=
  PerStation.get_set_same _ _ _

/-- A station between two states, for which nothing waits any more. -/
theorem State.eventsLaw_of_but {s : State} {n : Station} (h : s.eventsLawBut (· = n)) (hn : s.timings.get n = []) :
    s.eventsLaw := by
  intro m
  obtain ⟨hqueue, hlength, hwaits⟩ := h m
  refine ⟨hqueue, hlength, fun hne => ?_⟩
  obtain ⟨hdue, rfl | hjoined⟩ := hwaits hne
  · exact absurd hn hne
  · exact ⟨hdue, hjoined⟩

theorem State.eventsLawBut_of_law {s : State} (h : s.eventsLaw) (f : Station → Prop) : s.eventsLawBut f := fun n =>
  ⟨(h n).1, (h n).2.1, fun hne => ((h n).2.2 hne).imp id .inr⟩

/-- Once TIMING has come nothing waits for any station. -/
theorem State.timings_nil_of_come {s : State} (hs : s.eventsLaw) (hcome : s.timingCome) (n : Station) :
    s.timings.get n = [] := by
  by_contra hne
  have hall := hcome ((hs n).2.2 hne).1
  exact hne (by rw [hall]; exact PerStation.get_all _ _)

theorem Timer.pendingTaken_news (t : Timer) : t.pendingTaken.2.length ≤ 1 := by
  unfold Timer.pendingTaken
  split
  · exact Nat.zero_le _
  · split
    · exact Nat.zero_le _
    · split
      · exact Nat.zero_le _
      · simp only
        split <;> exact le_rfl

theorem State.eventsLaw_atBoundary {s : State} (hs : s.eventsLaw) (made : Timer) (news : List Event) (hcome : s.timingCome)
    (hnews : news.length ≤ 1) : (s.atBoundary made news).eventsLaw := by
  intro n
  have hpending := made.pendingTaken_news
  refine ⟨(hs n).1, ?_⟩
  simp only [State.atBoundary, PerStation.get_map, State.timings_nil_of_come hs hcome n, List.nil_append]
  split
  · next hjoined =>
    refine ⟨by rw [List.length_append]; omega, fun _ => ⟨?_, hjoined⟩⟩
    simp [boundaryWorks]
  · exact ⟨Nat.zero_le _, nofun⟩

theorem State.Move.eventsLaw {s t : State} (h : State.Move s t) (hs : s.eventsLaw) : t.eventsLaw := by
  cases h with
  | update h => exact (State.eventsLaw_iff _).mpr (State.Update.eventsLawBut _ _ h (s.eventsLaw_iff.mp hs))
  | depart n x c st hx =>
    refine State.eventsLaw_of_but ((s.depart_updates n x c st).keeps State.Update.eventsLawBut ?_) (s.depart_timings n x c st)
    exact State.eventsLawBut_setStation (State.eventsLawBut_of_law hs _) n _ fun _ => .inr rfl
  | leave n st hin hcome =>
    refine (State.eventsLaw_iff _).mpr ((s.leave_updates n st).keeps State.Update.eventsLawBut fun m => ?_)
    refine ⟨(hs m).1, (hs m).2.1, fun hne => absurd (State.timings_nil_of_come hs hcome m) hne⟩
  | endLeaving n st =>
    refine State.eventsLaw_of_but ((s.endLeaving_updates n st).keeps State.Update.eventsLawBut ?_) (s.endLeaving_timings n st)
    exact State.eventsLawBut_setStation (State.eventsLawBut_of_law hs _) n _ fun _ => .inr rfl

theorem State.Act.eventsLaw (s t : State) (h : State.Act s t) (hs : s.eventsLaw) : t.eventsLaw := by
  cases h with
  | move h => exact h.eventsLaw hs
  | boundary made news hcome hlaw hnews => exact State.eventsLaw_atBoundary hs made news hcome hnews

/-- Settles O56: the exchange's law by its own updates; TIMING waits from a boundary on, for the stations JOINED then, until it
is taken or the station departs. -/
theorem stepKeepsTheExchangeAndEventLaws : Obligations.StepKeepsTheExchangeAndEventLaws :=
  ⟨fun s t hs h => step_keeps_of_updates (P := State.exchangeLaw) State.Update.exchangeLaw (fun _ _ _ _ _ hs => hs)
      (fun _ _ _ hs => hs) (fun _ _ _ _ _ _ hs => hs) (fun _ _ hs => hs) (fun _ _ => State.reset_exchangeLaw) s t hs h,
    fun s t hs h => step_keeps_of_acts (P := State.eventsLaw) State.Act.eventsLaw (fun _ _ hs => hs)
      (fun _ _ => State.reset_eventsLaw) s t hs h⟩

end Sys2Proof.Machine
end

section
/-! SUPPORT. The law of the lane, update by update. -/

namespace Sys2Proof.Machine

/-! ## Queues, transfer and undelivered messages of the lane -/

theorem Lane.setTxQueue_queue (l : Lane) (n m : Station) (c d : MsgClass) (q : List Message) :
    (l.setTxQueue n c q).queue m d = if m = n ∧ d = c then q else l.queue m d := by
  by_cases hm : m = n
  · subst hm
    cases c <;> cases d <;> simp [Lane.setTxQueue, Lane.queue]
  · cases c <;> cases d <;> simp [Lane.setTxQueue, Lane.queue, hm]

theorem Lane.setTxQueue_transfer (l : Lane) (n : Station) (c : MsgClass) (q : List Message) :
    (l.setTxQueue n c q).transfer = l.transfer := by cases c <;> rfl

theorem Lane.setTxQueue_rx (l : Lane) (n : Station) (c : MsgClass) (q : List Message) :
    (l.setTxQueue n c q).rx = l.rx := by cases c <;> rfl

theorem Lane.setTxQueue_settings (l : Lane) (n : Station) (c : MsgClass) (q : List Message) :
    (l.setTxQueue n c q).settings = l.settings ∧ (l.setTxQueue n c q).pending = l.pending := by cases c <;> exact ⟨rfl, rfl⟩

theorem Lane.setTxQueue_nextPosted (l : Lane) (n : Station) (c : MsgClass) (q : List Message) :
    (l.setTxQueue n c q).nextPosted = l.nextPosted := by cases c <;> rfl

/-- The message in flight, if it is the sender's. -/
def Lane.flying (l : Lane) (n : Station) : List Message :=
  match l.transfer with
  | none => []
  | some t => if t.msg.source = n then [t.msg] else []

theorem Lane.ofSender_eq (l : Lane) (n : Station) :
    l.ofSender n = l.queue n .urgent ++ l.queue n .normal ++ l.flying n := rfl

/-! ## The parts of the law -/

/-- One transmit queue: its capacity, its messages its sender's and of its class, in post order (R105). -/
def queueLaw (n : Station) (c : MsgClass) (q : List Message) : Prop :=
  q.length ≤ classCapacity c ∧ (∀ m ∈ q, m.law ∧ m.source = n ∧ m.cls = c) ∧ (q.map (fun m => m.posted)).Pairwise (· < ·)

/-- The ordinals of a sender's undelivered messages: distinct, and below the next one (R105). -/
def ordinalsLaw (next : Nat) (l : List Nat) : Prop := l.Nodup ∧ ∀ k ∈ l, k < next

/-- The post ordinals of a sender's undelivered messages. -/
def Lane.ordinals (l : Lane) (n : Station) : List Nat := (l.ofSender n).map (fun m => m.posted)

/-- The transfer in flight as POST and the grant make it, with bytes left to move (R119, R121). -/
def Transfer.law (t : Transfer) : Prop := t.msg.law ∧ 1 ≤ t.remaining ∧ t.remaining ≤ 64

/-- Lane settings in their ranges (R136). -/
def LaneSettings.law (x : LaneSettings) : Prop := 8 ≤ x.budget ∧ x.budget ≤ 64 ∧ 1 ≤ x.holdLimit ∧ x.holdLimit ≤ 255

/-- The law of the lane but for its stage. -/
structure Lane.Law (l : Lane) : Prop where
  queue : ∀ n c, queueLaw n c (l.queue n c)
  places : ∀ n, (l.rx.get n).length + l.reserved n ≤ 8
  transfer : ∀ t ∈ l.transfer, t.law
  settings : l.settings.law
  pending : ∀ x ∈ l.pending, x.law
  ordinals : ∀ n, ordinalsLaw l.nextPosted (l.ordinals n)

theorem State.laneLaw_iff (s : State) : s.laneLaw ↔ s.lane.Law ∧ (s.lane.phase ≠ .transferStep → Work.lane ∈ s.due) := by
  constructor
  · rintro ⟨hcap, hmsg, horder, hplaces, htransfer, hsettings, hpending, hordinals, hphase⟩
    refine ⟨⟨fun n c => ⟨?_, hmsg n c, horder n c⟩, hplaces, fun t ht => ?_, hsettings, fun x hx => ?_, fun n => ?_⟩, hphase⟩
    · cases c
      · exact (hcap n).2
      · exact (hcap n).1
    · rw [Option.mem_def.mp ht] at htransfer; exact htransfer
    · rw [Option.mem_def.mp hx] at hpending; exact hpending
    · obtain ⟨hnodup, hlt⟩ := hordinals n
      exact ⟨hnodup, fun k hk => by obtain ⟨m, hm, rfl⟩ := List.mem_map.mp hk; exact hlt m hm⟩
  · rintro ⟨⟨hqueue, hplaces, htransfer, hsettings, hpending, hordinals⟩, hphase⟩
    refine ⟨fun n => ⟨(hqueue n .urgent).1, (hqueue n .normal).1⟩, fun n c => (hqueue n c).2.1, fun n c => (hqueue n c).2.2,
      hplaces, ?_, hsettings, ?_, fun n => ⟨(hordinals n).1, fun m hm => (hordinals n).2 _ (List.mem_map_of_mem hm)⟩, hphase⟩
    · split
      · trivial
      · next t ht => exact htransfer t ht
    · split
      · trivial
      · next x hx => exact hpending x hx

/-! ## Ordinals -/

theorem ordinalsLaw_of_subperm {next : Nat} {l k : List Nat} (hk : ordinalsLaw next k) (h : l.Subperm k) :
    ordinalsLaw next l := by
  obtain ⟨j, hperm, hsub⟩ := h
  exact ⟨hperm.nodup_iff.mp (hk.1.sublist hsub), fun x hx => hk.2 x (hsub.subset (hperm.mem_iff.mpr hx))⟩

theorem ordinalsLaw_cons {next : Nat} {l k : List Nat} (hk : ordinalsLaw next k) (h : l.Perm (next :: k)) :
    ordinalsLaw (next + 1) l := by
  refine ⟨h.nodup_iff.mpr (List.nodup_cons.mpr ⟨fun hmem => lt_irrefl _ (hk.2 _ hmem), hk.1⟩), fun x hx => ?_⟩
  rcases List.mem_cons.mp (h.mem_iff.mp hx) with rfl | hx
  · exact Nat.lt_succ_self _
  · exact Nat.lt_succ_of_lt (hk.2 x hx)

/-- Queues whose ordinals only go, and a transfer no other. -/
theorem Lane.ordinals_sublist {l k : Lane} {n : Station}
    (hq : ∀ c, ((l.queue n c).map (fun m => m.posted)).Sublist ((k.queue n c).map (fun m => m.posted)))
    (hf : (l.flying n).Sublist (k.flying n)) : (l.ordinals n).Sublist (k.ordinals n) := by
  unfold Lane.ordinals
  rw [Lane.ofSender_eq, Lane.ofSender_eq]
  simp only [List.map_append]
  exact ((hq .urgent).append (hq .normal)).append (hf.map _)

/-- A change of the lane that keeps queues and ordinals, and what it may do to the rest. -/
theorem Lane.Law.changed {l k : Lane} (hl : l.Law) (htx : k.tx = l.tx) (hnext : k.nextPosted = l.nextPosted)
    (hf : ∀ n, (k.flying n).Sublist (l.flying n)) (hplaces : ∀ n, (k.rx.get n).length + k.reserved n ≤ 8)
    (htransfer : ∀ t ∈ k.transfer, t.law) (hsettings : k.settings.law) (hpending : ∀ x ∈ k.pending, x.law) : k.Law := by
  have hqueue : ∀ n c, k.queue n c = l.queue n c := fun n c => by cases c <;> simp only [Lane.queue, htx]
  refine ⟨fun n c => hqueue n c ▸ hl.queue n c, hplaces, htransfer, hsettings, hpending, fun n => hnext ▸ ?_⟩
  exact ordinalsLaw_of_subperm (hl.ordinals n)
    (Lane.ordinals_sublist (fun c => by rw [hqueue n c]) (hf n)).subperm

/-! ## The updates of the lane -/

theorem Lane.reserved_le (l : Lane) (n : Station) : l.reserved n ≤ 1 := by unfold Lane.reserved; split <;> omega

theorem Lane.law_settings {l : Lane} (hl : l.Law) : l.withSettings.Law := by
  unfold Lane.withSettings
  split
  · next p hp => exact hl.changed rfl rfl (fun _ => .refl _) hl.places hl.transfer (hl.pending p hp) nofun
  · exact hl

/-- The transfer gone (R122, R131). -/
theorem Lane.law_free {l : Lane} (hl : l.Law) {v : PerStation (List Copy)} (hv : ∀ n, (v.get n).length ≤ 8)
    (d : Option Station) : Lane.Law { l with rx := v, transfer := none, deferred := d } :=
  hl.changed rfl rfl (fun _ => List.nil_sublist _) hv nofun hl.settings hl.pending

/-- A copy joins the queue of each station that had reserved a place for it (R122). -/
theorem Lane.length_withCopies {l : Lane} (hl : l.Law) {t : Transfer} (ht : l.transfer = some t) (st : Stamp) (n : Station) :
    ((l.withCopies t st).get n).length ≤ 8 := by
  have hplaces := hl.places n
  rw [Lane.withCopies, PerStation.get_map]
  split
  · next hn =>
    have hreserved : l.reserved n = 1 := by simp [Lane.reserved, Lane.reservedAt, ht, hn]
    simp only [List.length_append, List.length_singleton]
    omega
  · omega

/-- The transfer in flight with other bytes left or fewer destinations. -/
theorem Lane.law_transfer {l : Lane} (hl : l.Law) {t u : Transfer} (ht : l.transfer = some t) (hmsg : u.msg = t.msg)
    (hdests : u.dests.Sublist t.dests) (hpos : 1 ≤ u.remaining) (hle : u.remaining ≤ t.remaining) :
    Lane.Law { l with transfer := some u } := by
  obtain ⟨hlaw, -, hmax⟩ := hl.transfer t ht
  refine hl.changed rfl rfl (fun n => ?_) (fun n => ?_) (fun x hx => ?_) hl.settings hl.pending
  · simp only [Lane.flying, ht, hmsg, List.Sublist.refl]
  · have hplaces := hl.places n
    have hfewer : Lane.reserved { l with transfer := some u } n ≤ l.reserved n := by
      simp only [Lane.reserved, Lane.reservedAt, ht, List.contains_iff_mem]
      split_ifs with hnew hold
      · exact le_rfl
      · exact absurd (hdests.subset hnew) hold
      · exact Nat.zero_le _
      · exact Nat.zero_le _
    show (l.rx.get n).length + _ ≤ 8
    omega
  · cases hx
    exact ⟨hmsg ▸ hlaw, hpos, hle.trans hmax⟩

theorem Lane.law_receive {l : Lane} (hl : l.Law) (n : Station) {q : List Copy} (hq : q.Sublist (l.rx.get n)) :
    Lane.Law { l with rx := l.rx.set n q } := by
  refine hl.changed rfl rfl (fun _ => .refl _) (fun m => ?_) hl.transfer hl.settings hl.pending
  have hplaces := hl.places m
  show ((l.rx.set n q).get m).length + l.reserved m ≤ 8
  rw [PerStation.get_set]
  split
  · next hm => subst hm; have := hq.length_le; omega
  · exact hplaces

/-- A queue of some of the messages, their hold counts aside (R128). -/
theorem queueLaw_fewer {n : Station} {c : MsgClass} {q k : List Message} (hk : queueLaw n c k)
    (h : (q.map Message.unheld).Sublist (k.map Message.unheld)) : queueLaw n c q := by
  obtain ⟨hlength, hmsg, horder⟩ := hk
  refine ⟨by simpa using h.length_le.trans (by simpa using hlength), fun m hm => ?_, ?_⟩
  · obtain ⟨g, hg, hgm⟩ := List.mem_map.mp (h.subset (List.mem_map_of_mem hm))
    obtain ⟨hpayload, hsource, hcls⟩ := hmsg g hg
    have hp : g.payload = m.payload := (congrArg Message.payload hgm :)
    have hs : g.source = m.source := (congrArg Message.source hgm :)
    have hc : g.cls = m.cls := (congrArg Message.cls hgm :)
    exact ⟨⟨hp ▸ hpayload.1, hp ▸ hpayload.2⟩, hs ▸ hsource, hc ▸ hcls⟩
  · have hposted := h.map (fun m => m.posted)
    rw [List.map_map, List.map_map] at hposted
    exact horder.sublist hposted

theorem Lane.law_fewer {l : Lane} (hl : l.Law) (n : Station) (c : MsgClass) {q : List Message}
    (h : (q.map Message.unheld).Sublist ((l.queue n c).map Message.unheld)) : (l.setTxQueue n c q).Law := by
  obtain ⟨hsettings, hpending⟩ := l.setTxQueue_settings n c q
  refine ⟨fun m d => ?_, fun m => ?_, ?_, hsettings ▸ hl.settings, hpending ▸ hl.pending, fun m => ?_⟩
  · rw [Lane.setTxQueue_queue]
    split
    · next hmd => obtain ⟨rfl, rfl⟩ := hmd; exact queueLaw_fewer (hl.queue m d) h
    · exact hl.queue m d
  · simp only [Lane.setTxQueue_rx, Lane.reserved, Lane.reservedAt, Lane.setTxQueue_transfer]
    exact hl.places m
  · rw [Lane.setTxQueue_transfer]; exact hl.transfer
  · rw [Lane.setTxQueue_nextPosted]
    refine ordinalsLaw_of_subperm (hl.ordinals m) (Lane.ordinals_sublist (fun d => ?_) ?_).subperm
    · rw [Lane.setTxQueue_queue]
      split
      · next hmd =>
        obtain ⟨rfl, rfl⟩ := hmd
        have hposted := h.map (fun m => m.posted)
        rw [List.map_map, List.map_map] at hposted
        exact hposted
      · exact .refl _
    · simp only [Lane.flying, Lane.setTxQueue_transfer, List.Sublist.refl]

/-- A message posted joins the end of its queue with the next ordinal (R105, R108). -/
theorem queueLaw_append {n : Station} {c : MsgClass} {q : List Message} (hq : queueLaw n c q) {m : Message}
    (hroom : q.length < classCapacity c) (hm : m.law ∧ m.source = n ∧ m.cls = c) (hlast : ∀ g ∈ q, g.posted < m.posted) :
    queueLaw n c (q ++ [m]) := by
  obtain ⟨-, hmsg, horder⟩ := hq
  refine ⟨by simpa using hroom, fun g hg => ?_, ?_⟩
  · rcases List.mem_append.mp hg with hg | hg
    · exact hmsg g hg
    · rw [List.mem_singleton.mp hg]; exact hm
  · rw [List.map_append]
    refine List.pairwise_append.mpr ⟨horder, List.pairwise_singleton _ _, fun a ha b hb => ?_⟩
    obtain ⟨g, hg, rfl⟩ := List.mem_map.mp ha
    rw [List.mem_singleton.mp hb]
    exact hlast g hg

theorem Lane.ordinals_enqueue (l : Lane) (n : Station) (m : Message) (c : MsgClass) (hnew : m.posted = l.nextPosted)
    (k : Nat) : (Lane.ordinals { l.setTxQueue n c (l.queue n c ++ [m]) with nextPosted := k } n).Perm
      (l.nextPosted :: l.ordinals n) := by
  rw [← hnew]
  cases c
  · show (List.map _ ((l.setTxQueue n .normal _).queue n .urgent ++ (l.setTxQueue n .normal _).queue n .normal ++
      Lane.flying _ n)).Perm (List.map _ (m :: l.ofSender n))
    refine List.Perm.map _ ?_
    rw [Lane.setTxQueue_queue, Lane.setTxQueue_queue, if_neg (by simp), if_pos ⟨rfl, rfl⟩, Lane.ofSender_eq]
    show (l.queue n .urgent ++ (l.queue n .normal ++ [m]) ++ l.flying n).Perm _
    rw [← List.append_assoc, List.append_assoc _ [m]]
    exact List.perm_middle
  · show (List.map _ ((l.setTxQueue n .urgent _).queue n .urgent ++ (l.setTxQueue n .urgent _).queue n .normal ++
      Lane.flying _ n)).Perm (List.map _ (m :: l.ofSender n))
    refine List.Perm.map _ ?_
    rw [Lane.setTxQueue_queue, Lane.setTxQueue_queue, if_pos ⟨rfl, rfl⟩, if_neg (by simp), Lane.ofSender_eq]
    show (l.queue n .urgent ++ [m] ++ l.queue n .normal ++ l.flying n).Perm _
    rw [List.append_assoc, List.append_assoc _ [m], List.append_assoc]
    exact List.perm_middle

theorem Lane.law_enqueue {l : Lane} (hl : l.Law) {p : Station} {m : Message} (hsource : m.source = p) (hm : m.law)
    (hposted : m.posted = l.nextPosted) (hroom : (l.queue p m.cls).length < classCapacity m.cls) :
    Lane.Law { l.setTxQueue p m.cls (l.queue p m.cls ++ [m]) with nextPosted := l.nextPosted + 1 } := by
  obtain ⟨hsettings, hpending⟩ := l.setTxQueue_settings p m.cls (l.queue p m.cls ++ [m])
  have hlast : ∀ g ∈ l.queue p m.cls, g.posted < m.posted := fun g hg => by
    rw [hposted]
    refine (hl.ordinals p).2 _ (List.mem_map_of_mem (f := fun m : Message => m.posted) ?_)
    rw [Lane.ofSender_eq]
    cases hc : m.cls <;> rw [hc] at hg <;> simp [hg]
  have hqueue := fun k d => Lane.setTxQueue_queue l p k m.cls d (l.queue p m.cls ++ [m])
  refine ⟨fun k d => ?_, fun k => ?_, ?_, hsettings ▸ hl.settings, hpending ▸ hl.pending, fun k => ?_⟩
  · show queueLaw k d ((l.setTxQueue p m.cls _).queue k d)
    rw [hqueue]
    split
    · next hkd => obtain ⟨rfl, rfl⟩ := hkd; exact queueLaw_append (hl.queue _ _) hroom ⟨hm, hsource, rfl⟩ hlast
    · exact hl.queue k d
  · have hplaces := hl.places k
    simp only [Lane.setTxQueue_rx, Lane.reserved, Lane.reservedAt, Lane.setTxQueue_transfer] at hplaces ⊢
    exact hplaces
  · show ∀ t ∈ (l.setTxQueue p m.cls _).transfer, t.law
    rw [Lane.setTxQueue_transfer]
    exact hl.transfer
  · by_cases hk : k = p
    · subst hk
      exact ordinalsLaw_cons (hl.ordinals k) (l.ordinals_enqueue k m m.cls hposted _)
    · have hsame : Lane.ordinals { l.setTxQueue p m.cls (l.queue p m.cls ++ [m]) with nextPosted := l.nextPosted + 1 } k =
          l.ordinals k := by
        show List.map _ ((l.setTxQueue p m.cls _).queue k .urgent ++ (l.setTxQueue p m.cls _).queue k .normal ++
          (l.setTxQueue p m.cls _).flying k) = _
        rw [hqueue, hqueue, if_neg (by simp [hk]), if_neg (by simp [hk]), Lane.flying, Lane.setTxQueue_transfer]
        rfl
      rw [hsame]
      exact ⟨(hl.ordinals k).1, fun x hx => Nat.lt_succ_of_lt ((hl.ordinals k).2 x hx)⟩

/-! ## The grant (R126) -/

/-- Each station at which a granted message reserves a place has room for it (R123, R126). -/
theorem State.room_of_eligible {s : State} {n : Station} {c : MsgClass} {m : Message} {rest : List Message}
    (hq : s.lane.queue n c = m :: rest) (h : s.eligible n c = true) {k : Station} (hk : k ∈ s.destinationsOf m) :
    s.lane.hasRoom k = true := by
  simp only [State.eligible, hq, List.head?_cons, Bool.and_eq_true] at h
  obtain ⟨hready, -⟩ := h
  unfold State.destinationsReady at hready
  unfold State.destinationsOf at hk
  cases hd : m.dest with
  | some d =>
    simp only [hd, List.mem_singleton, Bool.and_eq_true] at hk hready
    exact hk ▸ hready.2
  | none =>
    simp only [hd, List.mem_filter, decide_eq_true_eq, Bool.and_eq_true, List.all_eq_true] at hk hready
    obtain ⟨hin, hne, hjoined⟩ := hk
    simpa [hne, hjoined] using hready k hin

/-- A grant moves the head of its queue into flight. -/
theorem Lane.ordinals_grant {l : Lane} (hl : l.Law) {n : Station} {c : MsgClass} {m : Message} {rest : List Message}
    (hq : l.queue n c = m :: rest) {g : Lane} (hg : ∀ k d, g.queue k d = (l.setTxQueue n c rest).queue k d)
    {t : Transfer} (ht : g.transfer = some t) (hmsg : t.msg = m) (k : Station) : (g.ordinals k).Subperm (l.ordinals k) := by
  have hsource : m.source = n := ((hl.queue n c).2.1 m (by rw [hq]; exact List.mem_cons_self)).2.1
  have hof : (g.ofSender k).Subperm (l.ofSender k) := by
    rw [Lane.ofSender_eq, Lane.ofSender_eq, Lane.flying, ht, hg, hg, Lane.setTxQueue_queue, Lane.setTxQueue_queue]
    simp only [hmsg, hsource]
    by_cases hk : n = k
    · subst hk
      rw [if_pos rfl]
      refine List.Subperm.trans ?_ (List.sublist_append_left _ _).subperm
      cases c
      · rw [hq, if_neg (by simp), if_pos ⟨rfl, rfl⟩, List.append_assoc]
        exact (List.Perm.append_left _ (List.perm_append_singleton m rest)).subperm
      · rw [hq, if_pos ⟨rfl, rfl⟩, if_neg (by simp)]
        exact (List.perm_append_singleton m _).subperm
    · rw [if_neg hk, if_neg (fun h => hk h.1.symm), if_neg (fun h => hk h.1.symm), List.append_nil]
      exact (List.sublist_append_left _ _).subperm
  obtain ⟨j, hperm, hsub⟩ := hof
  exact ⟨j.map _, hperm.map _, hsub.map _⟩

theorem State.laneLaw_grant {s : State} (hs : s.lane.Law) {n : Station} {c : MsgClass} {m : Message} {rest : List Message}
    (hq : s.lane.queue n c = m :: rest) (hel : s.eligible n c = true) (d : Option Station) :
    Lane.Law { s.lane.setTxQueue n c rest with
        transfer := some { msg := m, dests := s.destinationsOf m, remaining := m.laneLength }, pointer := n
        deferred := d } := by
  obtain ⟨hsettings, hpending⟩ := s.lane.setTxQueue_settings n c rest
  have hfewer := Lane.law_fewer hs n c (q := rest) (by rw [hq]; exact (List.sublist_cons_self m rest).map _)
  have hm : m.law := ((hs.queue n c).2.1 m (by rw [hq]; exact List.mem_cons_self)).1
  refine ⟨hfewer.queue, fun k => ?_, fun t ht => ?_, hsettings ▸ hs.settings, hpending ▸ hs.pending, fun k => ?_⟩
  · have hplaces := hs.places k
    have hone := Lane.reserved_le { s.lane.setTxQueue n c rest with
      transfer := some { msg := m, dests := s.destinationsOf m, remaining := m.laneLength }, pointer := n
      deferred := d } k
    by_cases hk : k ∈ s.destinationsOf m
    · have hroom := State.room_of_eligible hq hel hk
      simp only [Lane.hasRoom, decide_eq_true_eq, Config.receivePlaces] at hroom
      show ((s.lane.setTxQueue n c rest).rx.get k).length + _ ≤ 8
      rw [Lane.setTxQueue_rx]
      omega
    · have hnone : Lane.reserved { s.lane.setTxQueue n c rest with
          transfer := some { msg := m, dests := s.destinationsOf m, remaining := m.laneLength }, pointer := n
          deferred := d } k = 0 := by simp [Lane.reserved, Lane.reservedAt, hk]
      rw [hnone]
      show ((s.lane.setTxQueue n c rest).rx.get k).length + 0 ≤ 8
      rw [Lane.setTxQueue_rx]
      omega
  · cases ht
    obtain ⟨hmin, hmax⟩ := id hm
    refine ⟨hm, ?_, ?_⟩ <;> simp only [Message.laneLength, Config.laneOverhead] <;> omega
  · show ordinalsLaw (s.lane.setTxQueue n c rest).nextPosted _
    rw [Lane.setTxQueue_nextPosted]
    exact ordinalsLaw_of_subperm (hs.ordinals k) 
      (Lane.ordinals_grant (t := ⟨m, s.destinationsOf m, m.laneLength⟩) hs hq (by intros; rfl) (by rfl) rfl k)

/-! ## Every step -/

theorem State.laneLaw_setLane {s : State} (hs : s.laneLaw) {l : Lane} (hl : l.Law) (hphase : l.phase = s.lane.phase) :
    (s.setLane l).laneLaw :=
  (State.laneLaw_iff _).mpr ⟨hl, fun h => (s.laneLaw_iff.mp hs).2 (hphase ▸ h)⟩

theorem State.laneLaw_due {s t : State} (hs : s.laneLaw) (hlane : t.lane = s.lane) (hdue : Work.lane ∈ s.due → Work.lane ∈ t.due) :
    t.laneLaw := by
  obtain ⟨hl, hphase⟩ := s.laneLaw_iff.mp hs
  refine (State.laneLaw_iff t).mpr ?_
  rw [hlane]
  exact ⟨hl, fun h => hdue (hphase h)⟩

theorem Lane.law_phase {l : Lane} (hl : l.Law) (b : Bool) (x : LanePhase) : Lane.Law { l with idle := b, phase := x } :=
  hl.changed rfl rfl (fun _ => .refl _) hl.places hl.transfer hl.settings hl.pending

theorem State.Update.laneLaw (s t : State) (h : State.Update s t) (hs : s.laneLaw) : t.laneLaw := by
  obtain ⟨hl, hphase⟩ := s.laneLaw_iff.mp hs
  cases h with
  | timings =>
    rw [State.raiseTimings_eq]
    exact State.laneLaw_due hs rfl (List.mem_erase_of_ne (show Work.lane ≠ Work.timing by decide)).mpr
  | drop w hlane htiming => exact State.laneLaw_due hs rfl (List.mem_erase_of_ne hlane.symm).mpr
  | raise n st e => rw [State.raise_eq]; exact hs
  | settings => exact State.laneLaw_setLane hs (Lane.law_settings hl) (by unfold Lane.withSettings; split <;> rfl)
  | arbitration hdue => exact (State.laneLaw_iff _).mpr ⟨Lane.law_phase hl s.lane.idle _, fun _ => hdue⟩
  | judged b hat =>
    exact (State.laneLaw_iff _).mpr ⟨Lane.law_phase hl s.lane.idle _, fun _ => hphase (by rw [hat]; nofun)⟩
  | laneDone => exact (State.laneLaw_iff _).mpr ⟨Lane.law_phase hl _ _, absurd rfl⟩
  | moveBytes t b ht hb =>
    refine State.laneLaw_setLane hs (Lane.law_transfer hl ht rfl (.refl _) ?_ (Nat.sub_le _ _)) rfl
    show 1 ≤ t.remaining - b
    omega
  | arrive t d ht => exact State.laneLaw_setLane hs (Lane.law_free hl (Lane.length_withCopies hl ht _) d) rfl
  | grant n c m rest hq hel d => exact State.laneLaw_setLane hs (State.laneLaw_grant hl hq hel d) (Lane.setTxQueue_phase _ _ _ _)
  | abandon =>
    exact State.laneLaw_setLane hs (Lane.law_free hl (fun n => (Nat.le_add_right _ _).trans (hl.places n)) s.lane.deferred) rfl
  | reserve t l ht hsub =>
    exact State.laneLaw_setLane hs (Lane.law_transfer hl ht rfl hsub (hl.transfer t ht).2.1 le_rfl) rfl
  | fewerMessages n c q hq => exact State.laneLaw_setLane hs (Lane.law_fewer hl n c hq) (Lane.setTxQueue_phase _ _ _ _)
  | deferred d =>
    exact State.laneLaw_setLane hs
      (hl.changed (k := { s.lane with deferred := d }) rfl rfl (fun _ => .refl _) hl.places hl.transfer hl.settings hl.pending) rfl
  | receive n q hq => exact State.laneLaw_setLane hs (Lane.law_receive hl n hq) rfl
  | pendingLane x hx =>
    exact State.laneLaw_setLane hs (hl.changed (k := { s.lane with pending := some x }) rfl rfl (fun _ => .refl _) hl.places
      hl.transfer hl.settings (fun y hy => by cases hy; exact hx)) rfl
  | enqueue p m hin hsource hm hposted hroom =>
    exact State.laneLaw_setLane hs (Lane.law_enqueue hl hsource hm hposted hroom) (Lane.setTxQueue_phase _ _ _ _)
  | _ => exact hs

theorem State.laneLaw_atBoundary (s : State) (made : Timer) (news : List Event) (hs : s.laneLaw) :
    (s.atBoundary made news).laneLaw := State.laneLaw_due hs rfl fun _ => by simp [State.atBoundary, boundaryWorks]

/-- Settles O57: each update of the lane keeps queues, places, transfer, settings and ordinals, and its work is half done only
while it is due. -/
theorem stepKeepsTheLaneLaw : Obligations.StepKeepsTheLaneLaw :=
  step_keeps_of_updates (P := State.laneLaw) State.Update.laneLaw (fun _ _ _ _ _ hs => hs) (fun _ _ _ hs => hs)
    (fun s made news _ _ _ hs => s.laneLaw_atBoundary made news hs) (fun _ _ hs => hs) (fun _ _ => State.reset_laneLaw)

end Sys2Proof.Machine
end

section
/-! SUPPORT. Departures block by block: each operation as a change of its block and the records it raises, station by station;
the whole as the state of State.withoutStation, State.withLeaving and State.withLeft. -/

namespace Sys2Proof.Machine

/-! ## Records raised, station by station -/

/-- The events of a list that are for station m, in order. -/
def eventsFor (m : Station) (l : List (Station × Event)) : List Event := (l.filter (fun x => x.1 = m)).map Prod.snd

/-- The members' queues with events appended, in order and with one stamp (R151, R153). -/
def State.noted (s : State) (st : Stamp) (F : Station → List Event) : State :=
  s.setEvents (s.events.map (fun m q => if s.present m then q.appendAll (stamped st (F m)) else q))

theorem State.raiseAll_noted (s : State) (st : Stamp) (l : List (Station × Event)) :
    s.raiseAll st l = s.noted st (fun m => eventsFor m l) := by
  rw [State.raiseAll_eq, State.noted]
  congr 1
  refine PerStation.ext_get fun m => ?_
  rw [State.raiseAll_queue, PerStation.get_map]
  simp only [recordsFor, stamped, eventsFor, List.map_map, Function.comp_def]

theorem EventQueue.appendAll_append (q : EventQueue) (l k : List EventRecord) :
    q.appendAll (l ++ k) = (q.appendAll l).appendAll k := List.foldl_append

theorem stamped_append (st : Stamp) (l k : List Event) : stamped st (l ++ k) = stamped st l ++ stamped st k := List.map_append

theorem State.noted_events (s : State) (st : Stamp) (F : Station → List Event) (m : Station) :
    (s.noted st F).events.get m =
      if s.present m then (s.events.get m).appendAll (stamped st (F m)) else s.events.get m := PerStation.get_map _ _ _

theorem State.noted_noted (s : State) (st : Stamp) (F G : Station → List Event) :
    (s.noted st F).noted st G = s.noted st (fun m => F m ++ G m) := by
  have hboth : (s.noted st F).noted st G = s.setEvents ((s.noted st F).events.map
      (fun m q => if s.present m then q.appendAll (stamped st (G m)) else q)) := rfl
  rw [hboth]
  show _ = s.setEvents _
  congr 1
  refine PerStation.ext_get fun m => ?_
  rw [PerStation.get_map, PerStation.get_map, State.noted_events, stamped_append, EventQueue.appendAll_append]
  split <;> rfl

theorem State.noted_none (s : State) (st : Stamp) : s.noted st (fun _ => []) = s := by
  have hmap : s.events.map (fun m q => if s.present m then q.appendAll (stamped st []) else q) = s.events :=
    PerStation.ext_get fun m => by rw [PerStation.get_map]; exact ite_self _
  rw [State.noted, hmap]
  rfl

theorem eventsFor_flatMap {α : Type} (m : Station) (l : List α) (g : α → List (Station × Event)) :
    eventsFor m (l.flatMap g) = l.flatMap (fun x => eventsFor m (g x)) := by
  simp only [eventsFor, List.filter_flatMap, List.map_flatMap]

theorem eventsFor_pairs (m n : Station) (l : List Event) :
    eventsFor m (l.map (fun e => (n, e))) = if m = n then l else [] := by
  unfold eventsFor
  by_cases h : m = n
  · subst h; simp [List.filter_map, Function.comp_def]
  · simp [List.filter_map, Function.comp_def, h, Ne.symm h]

/-- Events raised station by station, each station once. -/
theorem eventsFor_stations (m : Station) (l : List Station) (hl : l.Nodup) (g : Station → List Event) :
    eventsFor m (l.flatMap (fun n => (g n).map (fun e => (n, e)))) = if m ∈ l then g m else [] := by
  rw [eventsFor_flatMap]
  induction l with
  | nil => rfl
  | cons n l ih =>
    obtain ⟨hn, hl⟩ := List.nodup_cons.mp hl
    rw [List.flatMap_cons, ih hl, eventsFor_pairs]
    by_cases h : m = n
    · subst h; simp [hn]
    · simp [h]

theorem eventsFor_each (m : Station) (l : List Station) (hl : l.Nodup) (e : Event) :
    eventsFor m (l.map (fun n => (n, e))) = if m ∈ l then [e] else [] := by
  rw [← eventsFor_stations m l hl fun _ => [e]]
  congr 1
  exact List.map_eq_flatMap

/-! ## The registry's records (R21, R35) -/

theorem State.mem_joinedStations (s : State) (m : Station) : m ∈ s.joinedStations ↔ s.joined m = true := by
  simp [State.joinedStations, mem_stations]

theorem State.joinedStations_nodup (s : State) : s.joinedStations.Nodup := stations_nodup.filter _

/-- STATION_CHANGED, and COORDINATOR_CHANGED if the role is lost, for the stations JOINED once n is not. -/
theorem State.announce_noted (s : State) (n : Station) (x : StationState) (c : Cause) (held : Bool) (st : Stamp)
    (hout : s.joined n = false) :
    s.announce n x c held st = s.noted st (fun m => if s.joined m then
      .stationChanged n x c :: (if held then [.coordinatorChanged none] else []) else []) := by
  have hothers : s.raiseToOthers n st (.stationChanged n x c) =
      s.noted st (fun m => if s.joined m then [.stationChanged n x c] else []) := by
    rw [State.raiseToOthers, State.raiseAll_noted]
    congr 1
    funext m
    rw [eventsFor_each _ _ (s.joinedStations_nodup.filter _)]
    by_cases hm : s.joined m = true
    · have hne : m ≠ n := by rintro rfl; rw [hout] at hm; cases hm
      simp [State.mem_joinedStations, hm, hne]
    · simp [State.mem_joinedStations, hm]
  have hjoined : ∀ v : State, v.raiseToJoined st (.coordinatorChanged none) =
      v.noted st (fun m => if v.joined m then [.coordinatorChanged none] else []) := fun v => by
    rw [State.raiseToJoined, State.raiseAll_noted]
    congr 1
    funext m
    rw [eventsFor_each _ _ v.joinedStations_nodup, if_congr (v.mem_joinedStations m) rfl rfl]
  unfold State.announce
  simp only
  cases held with
  | false => exact hothers
  | true =>
    rw [hothers]
    refine (hjoined _).trans ((State.noted_noted _ _ _ _).trans (congrArg _ (funext fun m => ?_)))
    show (if s.joined m then _ else _) ++ (if s.joined m then _ else _) = _
    split <;> rfl

/-! ## Roles (R43, R44) -/

theorem SlotEntry.raiseFlags_eq_rolesMarked (n : Station) (gone : Bool) (e : SlotEntry) :
    e.raiseFlags n gone = e.rolesMarked n gone := by
  unfold SlotEntry.raiseFlags SlotEntry.rolesMarked
  congr 1
  · cases e.producer with
    | none => rfl
    | some p => by_cases hp : p.station = n <;> simp [hp]
  · refine List.map_congr_left fun c _ => ?_
    by_cases hc : c.station = n <;> simp [hc]

/-- Whose roles are orphaned, another station's live consumer records stay (R44). -/
theorem orphan_liveOf (n m : Station) (hm : m ≠ n) (e : SlotEntry) :
    (e.orphan n).consumers.filter (fun c => c.station = m ∧ c.orphaned = false) =
      e.consumers.filter (fun c => c.station = m ∧ c.orphaned = false) := by
  unfold SlotEntry.orphan
  simp only
  induction e.consumers with
  | nil => rfl
  | cons c l ih =>
    rw [List.map_cons, List.filter_cons, List.filter_cons, ih]
    by_cases hc : c.station = n
    · simp [hc, hm.symm]
    · simp [hc]

/-- The PRODUCER_GONE records of one slot for another station. -/
theorem eventsFor_goneNotices (n m : Station) (hm : m ≠ n) (k : Nat) (e : SlotEntry) :
    eventsFor m (goneNotices n k e) =
      if e.producer.any (fun p => p.station = n ∧ p.orphaned = false) then
        (e.consumers.filter (fun c => c.station = m ∧ c.orphaned = false)).map (fun _ => Event.producerGone k n)
      else [] := by
  have hproducer : e.liveProducer n = e.producer.any (fun p => p.station = n ∧ p.orphaned = false) := by
    unfold SlotEntry.liveProducer Producer.live
    cases e.producer with
    | none => rfl
    | some p => by_cases hp : p.station = n <;> cases ho : p.orphaned <;> simp [hp, ho]
  unfold goneNotices
  rw [hproducer]
  split
  · rw [← orphan_liveOf n m hm]
    simp only [eventsFor, List.filter_map, List.map_map, Function.comp_def, List.filter_filter, Consumer.live]
    congr 1
    refine List.filter_congr fun c _ => ?_
    by_cases hc : c.station = m <;> cases c.orphaned <;> simp [hc]
  · rfl

/-- Orphaning, with the PRODUCER_GONE records of the station's slots; of those for the station itself nothing is said. -/
def State.goneEvents (s : State) (n m : Station) : List Event :=
  eventsFor m (s.slotMap.zipIdx.flatMap (fun x => goneNotices n x.2 x.1))

theorem State.goneEvents_eq (s : State) (n m : Station) (hm : m ≠ n) : s.goneEvents n m = s.goneNews n m := by
  rw [State.goneEvents, eventsFor_flatMap, State.goneNews]
  congr 1
  funext y
  exact eventsFor_goneNotices n m hm y.2 y.1

theorem map_rolesMarked (n : Station) (gone : Bool) (l : List SlotEntry) :
    l.map (SlotEntry.raiseFlags n gone) = l.map (SlotEntry.rolesMarked n gone) :=
  List.map_congr_left fun e _ => e.raiseFlags_eq_rolesMarked n gone

theorem State.orphanRoles_noted (s : State) (n : Station) (st : Stamp) :
    s.orphanRoles n st = (s.setSlotMap (s.slotMap.map (SlotEntry.rolesMarked n true))).noted st (s.goneEvents n) := by
  rw [State.orphanRoles, SlotEntry.orphan_eq, map_rolesMarked, State.raiseAll_noted]
  rfl

theorem State.markRoles_eq (s : State) (n : Station) :
    s.markRoles n = s.setSlotMap (s.slotMap.map (SlotEntry.rolesMarked n false)) := by
  rw [State.markRoles, SlotEntry.markRelease_eq, map_rolesMarked]

/-! ## Messages that leave the lane undelivered (R116, R133, R143) -/

theorem withoutFollowers_nil (l : List AckEntry) : withoutFollowers [] l = l := by simp [withoutFollowers]

theorem withoutFollowers_append (a b : List Message) (l : List AckEntry) :
    withoutFollowers b (withoutFollowers a l) = withoutFollowers (a ++ b) l := by
  simp only [withoutFollowers, List.filter_filter, List.any_append, Bool.not_or]
  exact List.filter_congr fun _ _ => Bool.and_comm _ _

theorem State.ackGone_eq (s : State) (m : Message) :
    s.ackGone m = s.setAckList m.source (withoutFollowers [m] (s.acks.get m.source)) := by
  unfold State.ackGone Message.followed
  split
  · next h =>
    have hlist : (s.acks.get m.source).filter (fun a => a.seq ≠ m.seq) = withoutFollowers [m] (s.acks.get m.source) :=
      List.filter_congr fun a _ => by by_cases ha : a.seq = m.seq <;> simp [h, ha, Ne.symm]
    rw [hlist]
  · next h =>
    have hlist : withoutFollowers [m] (s.acks.get m.source) = s.acks.get m.source := by simp [withoutFollowers, h]
    rw [hlist]
    simp [State.setAckList, State.setAcks]

theorem State.undeliverable_noted (s : State) (st : Stamp) (m : Message) :
    s.undeliverable st .peerGone m = (s.setAckList m.source (withoutFollowers [m] (s.acks.get m.source))).noted st
      (fun j => if j = m.source then undeliverableNews [m] else []) := by
  have hraise : s.raise m.source st (.undeliverable m.tag m.seq .peerGone) =
      s.noted st (fun j => if j = m.source then undeliverableNews [m] else []) := by
    refine (s.raiseAll_noted st [(m.source, .undeliverable m.tag m.seq .peerGone)]).trans (congrArg _ (funext fun j => ?_))
    exact eventsFor_pairs j m.source [.undeliverable m.tag m.seq .peerGone]
  rw [State.undeliverable, State.ackGone_eq, hraise]
  rfl

@[simp] theorem State.setAckList_get (s : State) (k : Station) (l : List AckEntry) :
    (s.setAckList k l).acks.get k = l := PerStation.get_set_same _ _ _

@[simp] theorem State.setAckList_setAckList (s : State) (k : Station) (l j : List AckEntry) :
    (s.setAckList k l).setAckList k j = s.setAckList k j := by
  simp only [State.setAckList, State.setAcks, PerStation.set_set]

@[simp] theorem State.setAckList_same (s : State) (k : Station) : s.setAckList k (s.acks.get k) = s := by
  simp only [State.setAckList, State.setAcks, PerStation.set_get]

theorem State.noted_acks (s : State) (st : Stamp) (F : Station → List Event) : (s.noted st F).acks = s.acks := rfl

theorem State.noted_setAckList (s : State) (st : Stamp) (F : Station → List Event) (k : Station) (l : List AckEntry) :
    (s.noted st F).setAckList k l = (s.setAckList k l).noted st F := rfl

/-- The messages of one sender, one after another. -/
theorem State.undeliverables_noted (st : Stamp) (k : Station) (l : List Message) (hl : ∀ m ∈ l, m.source = k) (s : State) :
    l.foldl (fun t m => t.undeliverable st .peerGone m) s =
      (s.setAckList k (withoutFollowers l (s.acks.get k))).noted st (fun j => if j = k then undeliverableNews l else []) := by
  induction l generalizing s with
  | nil =>
    rw [withoutFollowers_nil, State.setAckList_same, List.foldl_nil]
    exact (by simpa [undeliverableNews] using (s.noted_none st).symm)
  | cons m l ih =>
    have hm : m.source = k := hl m List.mem_cons_self
    rw [List.foldl_cons, ih (fun g hg => hl g (List.mem_cons_of_mem _ hg)), State.undeliverable_noted, hm,
      State.noted_acks, State.noted_setAckList, State.noted_noted, State.setAckList_get, State.setAckList_setAckList,
      withoutFollowers_append, List.singleton_append]
    refine congrArg _ (funext fun j => ?_)
    split <;> rfl

end Sys2Proof.Machine
end

section
/-! SUPPORT. The lane and the acknowledgement table at a departure, and the three changes of membership as whole states. -/

namespace Sys2Proof.Machine

theorem State.noted_lane (s : State) (st : Stamp) (F : Station → List Event) : (s.noted st F).lane = s.lane := rfl

theorem State.noted_setLane (s : State) (st : Stamp) (F : Station → List Event) (l : Lane) :
    (s.noted st F).setLane l = (s.setLane l).noted st F := rfl

/-! ## The transfer in flight (R133, R134) -/

theorem State.dropFromTransfer_noted (s : State) (n : Station) (st : Stamp) :
    s.dropFromTransfer n st = ((s.setLane { s.lane with transfer := s.lane.transferWithout n }).setAcks
      (s.acks.map (fun m l => withoutFollowers (s.abandonedFor n m) l))).noted st
        (fun m => undeliverableNews (s.abandonedFor n m)) := by
  have hquiet : ∀ l : Lane, (∀ m, s.abandonedFor n m = []) → s.lane.transferWithout n = l.transfer →
      { s.lane with transfer := l.transfer } = l →
      s.setLane l = ((s.setLane { s.lane with transfer := s.lane.transferWithout n }).setAcks
        (s.acks.map (fun m l => withoutFollowers (s.abandonedFor n m) l))).noted st
        (fun m => undeliverableNews (s.abandonedFor n m)) := by
    intro l hnone htransfer hl
    have hacks : s.acks.map (fun m l => withoutFollowers (s.abandonedFor n m) l) = s.acks :=
      PerStation.ext_get fun m => by rw [PerStation.get_map, hnone, withoutFollowers_nil]
    rw [hacks, htransfer, hl]
    simp only [hnone]
    exact ((s.setLane l).noted_none st).symm
  unfold State.dropFromTransfer
  split
  · next ht =>
    refine hquiet s.lane (fun m => ?_) ?_ rfl
    · rw [State.abandonedFor, ht]
    · rw [Lane.transferWithout, ht]
  · next t ht =>
    split
    · next hsource =>
      refine hquiet { s.lane with transfer := none } (fun m => ?_) ?_ rfl
      · rw [State.abandonedFor, ht]
        exact if_neg fun h => h.2.1 (h.1.symm.trans hsource)
      · rw [Lane.transferWithout, ht]
        exact if_pos hsource
    · next hsource =>
      split
      · next hdest =>
        simp only
        split
        · next hlast =>
          have habandoned : ∀ m, s.abandonedFor n m = if m = t.msg.source then [t.msg] else [] := fun m => by
            rw [State.abandonedFor, ht]
            by_cases hm : m = t.msg.source
            · subst hm; rw [if_pos rfl]; exact if_pos ⟨rfl, hsource, hdest, hlast⟩
            · simp [hm, Ne.symm hm]
          have hfree : s.lane.transferWithout n = none := by
            rw [Lane.transferWithout, ht]
            simp only [hsource, hdest, hlast, if_true, if_false]
          have hacks : s.acks.map (fun m l => withoutFollowers (s.abandonedFor n m) l) =
              s.acks.set t.msg.source (withoutFollowers [t.msg] (s.acks.get t.msg.source)) :=
            PerStation.ext_get fun m => by
              rw [PerStation.get_map, PerStation.get_set, habandoned]
              split
              · next hm => rw [hm]
              · exact withoutFollowers_nil _
          rw [State.undeliverable_noted, hfree, hacks]
          refine congrArg _ (funext fun m => ?_)
          rw [habandoned]
          split <;> rfl
        · next hlast =>
          refine hquiet { s.lane with transfer := some { t with dests := t.dests.filter (· ≠ n) } } (fun m => ?_) ?_ rfl
          · rw [State.abandonedFor, ht]
            exact if_neg fun h => hlast h.2.2.2
          · rw [Lane.transferWithout, ht]
            simp only [hsource, hdest, hlast, if_true, if_false]
      · next hdest =>
        refine hquiet s.lane (fun m => ?_) ?_ rfl
        · rw [State.abandonedFor, ht]
          exact if_neg fun h => hdest h.2.2.1
        · rw [Lane.transferWithout, ht]
          simp [hsource, hdest]

/-! ## The returns (R116) -/

theorem insertPosted_eq (m : Message) (l : List Message) :
    insertPosted m l = l.orderedInsert (fun a b => a.posted ≤ b.posted) m := by
  induction l with
  | nil => rfl
  | cons x l ih => rw [insertPosted, List.orderedInsert_cons, ih]

theorem inPostOrder_eq (l : List Message) : inPostOrder l = l.insertionSort (fun a b => a.posted ≤ b.posted) := by
  induction l with
  | nil => rfl
  | cons m l ih => rw [List.insertionSort_cons, ← ih, ← insertPosted_eq]; rfl

theorem mem_inPostOrder {m : Message} {l : List Message} : m ∈ inPostOrder l ↔ m ∈ l := by
  rw [inPostOrder_eq]; exact List.mem_insertionSort _

/-- The messages of sender k that are returned once x is no longer JOINED, in post order. -/
def State.returning (s : State) (x k : Station) : List Message := (s.lane.queued k).filter (s.returned x k)

/-- The two queues of a sender without the messages returned. -/
def State.unreturned (s : State) (x k : Station) (q : TxQueues) : TxQueues :=
  { urgent := q.urgent.filter (fun m => !s.returned x k m), normal := q.normal.filter (fun m => !s.returned x k m) }

theorem State.returnsOf_noted (s : State) (x : Station) (st : Stamp) (k : Station)
    (hsource : ∀ c, ∀ m ∈ s.lane.queue k c, m.source = k) :
    s.returnsOf x st k = ((s.setLane { s.lane with tx := s.lane.tx.set k (s.unreturned x k (s.lane.tx.get k)) }).setAckList k
      (withoutFollowers (s.returning x k) (s.acks.get k))).noted st
        (fun j => if j = k then undeliverableNews (s.returning x k) else []) := by
  refine State.undeliverables_noted st k (s.returning x k) (fun m hm => ?_) _
  obtain ⟨hm, -⟩ := List.mem_filter.mp hm
  rcases List.mem_append.mp (mem_inPostOrder.mp hm) with hm | hm
  · exact hsource .urgent m hm
  · exact hsource .normal m hm

/-- The lane and the acknowledgement table once the messages of some senders are returned. -/
def State.returnsTaken (s : State) (x : Station) (l : List Station) : State :=
  (s.setLane { s.lane with tx := s.lane.tx.map (fun k q => if k ∈ l then s.unreturned x k q else q) }).setAcks
    (s.acks.map (fun k a => if k ∈ l then withoutFollowers (s.returning x k) a else a))

theorem State.returnsTaken_queue (s : State) (x : Station) (l : List Station) {k : Station} (hk : k ∉ l) :
    (s.returnsTaken x l).lane.tx.get k = s.lane.tx.get k := (PerStation.get_map _ _ _).trans (if_neg hk)

theorem State.returnsTaken_acks (s : State) (x : Station) (l : List Station) {k : Station} (hk : k ∉ l) :
    (s.returnsTaken x l).acks.get k = s.acks.get k := (PerStation.get_map _ _ _).trans (if_neg hk)

theorem State.returnsTaken_returning (s : State) (x : Station) (l : List Station) {k : Station} (hk : k ∉ l) :
    (s.returnsTaken x l).returning x k = s.returning x k := by
  have hqueue : ∀ c, (s.returnsTaken x l).lane.queue k c = s.lane.queue k c := fun c => by
    cases c <;> simp only [Lane.queue, s.returnsTaken_queue x l hk]
  unfold State.returning Lane.queued
  rw [hqueue, hqueue]
  rfl

/-- One sender more. -/
theorem State.returnsTaken_snoc (s : State) (x : Station) (l : List Station) {k : Station} (hk : k ∉ l) :
    ((s.returnsTaken x l).setLane { (s.returnsTaken x l).lane with
        tx := (s.returnsTaken x l).lane.tx.set k (s.unreturned x k (s.lane.tx.get k)) }).setAckList k
      (withoutFollowers (s.returning x k) (s.acks.get k)) = s.returnsTaken x (l ++ [k]) := by
  have htx : (s.lane.tx.map (fun k q => if k ∈ l then s.unreturned x k q else q)).set k
      (s.unreturned x k (s.lane.tx.get k)) = s.lane.tx.map (fun j q => if j ∈ l ++ [k] then s.unreturned x j q else q) :=
    PerStation.ext_get fun j => by
      rw [PerStation.get_set, PerStation.get_map, PerStation.get_map]
      by_cases hj : j = k
      · subst hj; simp
      · simp [hj]
  have hacks : (s.acks.map (fun k a => if k ∈ l then withoutFollowers (s.returning x k) a else a)).set k
      (withoutFollowers (s.returning x k) (s.acks.get k)) =
        s.acks.map (fun j a => if j ∈ l ++ [k] then withoutFollowers (s.returning x j) a else a) :=
    PerStation.ext_get fun j => by
      rw [PerStation.get_set, PerStation.get_map, PerStation.get_map]
      by_cases hj : j = k
      · subst hj; simp
      · simp [hj]
  rw [State.returnsTaken, State.returnsTaken, ← htx, ← hacks]
  rfl

theorem State.returnsFold_noted (s : State) (x : Station) (st : Stamp) (hsource : ∀ k c, ∀ m ∈ s.lane.queue k c, m.source = k)
    (l : List Station) (hl : l.Nodup) :
    l.foldl (fun t k => t.returnsOf x st k) s =
      (s.returnsTaken x l).noted st (fun j => if j ∈ l then undeliverableNews (s.returning x j) else []) := by
  induction l using List.reverseRecOn with
  | nil =>
    have hnone : s.returnsTaken x [] = s := by
      have htx : s.lane.tx.map (fun k q => if k ∈ ([] : List Station) then s.unreturned x k q else q) = s.lane.tx :=
        PerStation.ext_get fun k => by rw [PerStation.get_map]; simp
      have hacks : s.acks.map (fun k a => if k ∈ ([] : List Station) then withoutFollowers (s.returning x k) a else a) =
          s.acks := PerStation.ext_get fun k => by rw [PerStation.get_map]; simp
      rw [State.returnsTaken, htx, hacks]
      rfl
    rw [hnone]
    simpa using (s.noted_none st).symm
  | append_singleton l k ih =>
    have hk : k ∉ l := fun h => (List.nodup_append.mp hl).2.2 k h k (List.mem_singleton_self k) rfl
    rw [List.foldl_append, ih (List.nodup_append.mp hl).1]
    refine ((State.returnsOf_noted _ x st k fun c m hm => ?_).trans ?_)
    · have hqueue : (s.returnsTaken x l).lane.queue k c = s.lane.queue k c := by
        cases c <;> simp only [Lane.queue, s.returnsTaken_queue x l hk]
      exact hsource k c m (hqueue ▸ hm)
    · have hreturning : ∀ F, ((s.returnsTaken x l).noted st F).returning x k = s.returning x k := fun _ =>
        s.returnsTaken_returning x l hk
      have hacks : ∀ F, ((s.returnsTaken x l).noted st F).acks.get k = s.acks.get k := fun _ => s.returnsTaken_acks x l hk
      have hqueue : ∀ F, ((s.returnsTaken x l).noted st F).lane.tx.get k = s.lane.tx.get k := fun _ =>
        s.returnsTaken_queue x l hk
      have hunreturned : ∀ F q, ((s.returnsTaken x l).noted st F).unreturned x k q = s.unreturned x k q := fun _ _ => rfl
      rw [hreturning, hacks, hqueue, ← s.returnsTaken_snoc x l hk, hunreturned, State.noted_lane, State.noted_setLane,
        State.noted_setAckList, State.noted_noted]
      refine congrArg _ (funext fun j => ?_)
      by_cases hj : j = k
      · subst hj; simp [hk]
      · simp [hj]

/-- The returns at a change of membership of x (R116). -/
theorem State.returns_noted (s : State) (x : Station) (st : Stamp) (hsource : ∀ k c, ∀ m ∈ s.lane.queue k c, m.source = k) :
    s.returns x st = (s.returnsTaken x (stations.filter (· ≠ x))).noted st
      (fun j => if j ≠ x then undeliverableNews (s.returning x j) else []) := by
  rw [State.returns, s.returnsFold_noted x st hsource _ (stations_nodup.filter _)]
  refine congrArg _ (funext fun j => ?_)
  simp [mem_stations]

/-! ## The acknowledgement table (R147) -/

theorem AckEntry.awaits_eq (x : Station) (a : AckEntry) : a.awaits x = a.deliveredTo x := by
  unfold AckEntry.awaits AckEntry.deliveredTo
  cases a.state <;> simp

theorem State.ackResolve_noted (s : State) (x : Station) (st : Stamp) :
    s.ackResolve x st = (s.setAcks (s.acks.map (fun n l => if n = x then l else l.filter (fun a => !a.deliveredTo x)))).noted
      st (fun m => if m ≠ x then unackedNews x (s.acks.get m) else []) := by
  have hevents : ∀ m, eventsFor m ((stations.filter (· ≠ x)).flatMap (fun n =>
      ((s.acks.get n).filter (fun a => a.awaits x)).map (fun a => (n, Event.unacked a.seq a.tag .peerGone)))) =
      if m ≠ x then unackedNews x (s.acks.get m) else [] := fun m => by
    have hpairs : (fun n => ((s.acks.get n).filter (fun a => a.awaits x)).map
        (fun a => (n, Event.unacked a.seq a.tag .peerGone))) =
        fun n => (unackedNews x (s.acks.get n)).map (fun e => (n, e)) := by
      funext n
      simp only [unackedNews, List.map_map, Function.comp_def, AckEntry.awaits_eq]
    rw [hpairs, eventsFor_stations m _ (stations_nodup.filter _)]
    simp [mem_stations]
  rw [State.ackResolve, State.raiseAll_noted]
  simp only [hevents]
  simp only [AckEntry.awaits_eq]

end Sys2Proof.Machine
end

section
/-! SUPPORT. The three changes of membership as whole states. -/

namespace Sys2Proof.Machine

/-- A state is its blocks. -/
theorem State.ext_blocks {s t : State} (htimer : s.timer = t.timer) (hregistry : s.registry = t.registry)
    (hslotMap : s.slotMap = t.slotMap) (hchanges : s.changes = t.changes) (hslots : s.slots = t.slots)
    (hrings : s.rings = t.rings) (hlane : s.lane = t.lane) (hacks : s.acks = t.acks) (hevents : s.events = t.events)
    (hports : s.ports = t.ports) (hdue : s.due = t.due) (htimings : s.timings = t.timings)
    (hpending : s.pending = t.pending) : s = t := by
  cases s; cases t; simp_all

/-- A lane is its parts: those that a departure changes, and the rest. -/
theorem Lane.ext_parts {l k : Lane} (htx : l.tx = k.tx) (hrx : l.rx = k.rx) (htransfer : l.transfer = k.transfer)
    (hdeferred : l.deferred = k.deferred)
    (hrest : (l.pointer, l.idle, l.settings, l.pending, l.nextPosted, l.phase) =
      (k.pointer, k.idle, k.settings, k.pending, k.nextPosted, k.phase)) : l = k := by
  cases l; cases k; simp_all

/-! ## The registry of a departure (R26, R31, R35) -/

/-- The hub with one station's record replaced and the role lost if it held it. -/
def State.recordOf (s : State) (n : Station) (r : StationRec) : State :=
  s.setRegistry { s.registry with
    stations := s.registry.stations.set n r
    coordinator := if s.registry.coordinator = some n then none else s.registry.coordinator }

theorem State.setStation_dropRole (s : State) (n : Station) (r : StationRec) :
    (s.setStation n r).dropRole n = s.recordOf n r := by
  unfold State.dropRole State.holdsRole State.recordOf
  by_cases h : s.registry.coordinator = some n <;> simp [State.setStation, State.setCoordinator, State.setRegistry, h]

theorem State.recordOf_joined (s : State) (n m : Station) (r : StationRec) :
    (s.recordOf n r).joined m = if m = n then r.state == .joined else s.joined m := s.setStation_joined n m r

theorem State.recordOf_present (s : State) (n m : Station) (r : StationRec) :
    (s.recordOf n r).present m = if m = n then r.state == .joined || r.state == .leaving else s.present m :=
  s.setStation_present n m r

/-- Station x is no longer JOINED in v, the others as in s. -/
def State.joinedWithout (s v : State) (x : Station) : Prop := ∀ j, v.joined j = (j ≠ x && s.joined j)

theorem State.recordOf_joinedWithout (s : State) (n : Station) (r : StationRec) (h : r.state ≠ .joined) :
    s.joinedWithout (s.recordOf n r) n := fun j => by
  rw [State.recordOf_joined]
  by_cases hj : j = n <;> simp [hj, h]

/-! ## What is returned (R116) -/

theorem State.returned_eq_unreachable {s v : State} {x : Station} (hv : s.joinedWithout v x) (k : Station) (g : Message) :
    v.returned x k g = s.unreachable x k g := by
  unfold State.returned State.unreachable
  cases g.dest with
  | some d => rfl
  | none =>
    rw [List.not_any_eq_all_not]
    refine List.all_congr rfl fun j => ?_
    rw [hv j]
    by_cases hk : j = k <;> by_cases hx : j = x <;> simp [hk, hx]

theorem State.returning_eq {s v : State} {x k : Station} (hv : s.joinedWithout v x)
    (hq : ∀ c, v.lane.queue k c = s.lane.queue k c) : v.returning x k = s.returnedFor x k := by
  rw [State.returning, State.returnedFor, Lane.queued, hq, hq, inPostOrder_eq]
  exact List.filter_congr fun g _ => State.returned_eq_unreachable hv k g

theorem State.unreturned_eq {s v : State} {x : Station} (hv : s.joinedWithout v x) (k : Station) (q : TxQueues) :
    v.unreturned x k q = { urgent := q.urgent.filter (fun g => !s.unreachable x k g)
                           normal := q.normal.filter (fun g => !s.unreachable x k g) } := by
  simp only [State.unreturned, State.returned_eq_unreachable hv]

/-! ## One operation after records are raised -/

theorem State.noted_congr (s : State) (st : Stamp) {F G : Station → List Event} (h : ∀ m, F m = G m) :
    s.noted st F = s.noted st G := by rw [funext h]

section
variable (s v : State) (st : Stamp) (F : Station → List Event) (n : Station)

theorem State.noted_orphanRoles : (v.noted st F).orphanRoles n st =
    (v.setSlotMap (v.slotMap.map (SlotEntry.rolesMarked n true))).noted st (fun m => F m ++ v.goneEvents n m) :=
  ((v.noted st F).orphanRoles_noted n st).trans (State.noted_noted (v.setSlotMap _) st _ _)

theorem State.noted_markRoles : (v.noted st F).markRoles n =
    (v.setSlotMap (v.slotMap.map (SlotEntry.rolesMarked n false))).noted st F := (v.noted st F).markRoles_eq n

theorem State.noted_discardChanges : (v.noted st F).discardChanges n = (v.discardChanges n).noted st F := rfl

theorem State.noted_setRing (r : Ring) : (v.noted st F).setRing n r = (v.setRing n r).noted st F := rfl

theorem State.noted_discardQueues : (v.noted st F).discardQueues n = (v.discardQueues n).noted st F := rfl

theorem State.noted_emptyReceive : (v.noted st F).emptyReceive n = (v.emptyReceive n).noted st F := rfl

theorem State.noted_ackClear : (v.noted st F).ackClear n = (v.ackClear n).noted st F := rfl

/-- The transfer in flight and the entries that followed it as an abrupt departure of n leaves them (R133, R134, R143): `s` is
the hub before, `v` while it is under way. -/
def State.transferDropped : State :=
  (v.setLane { v.lane with transfer := s.lane.transferWithout n }).setAcks
    (v.acks.map (fun m l => withoutFollowers (s.abandonedFor n m) l))

theorem State.noted_dropFromTransfer (h : v.lane.transfer = s.lane.transfer) : (v.noted st F).dropFromTransfer n st =
    (s.transferDropped v n).noted st (fun m => F m ++ undeliverableNews (s.abandonedFor n m)) := by
  have habandoned : ∀ m, v.abandonedFor n m = s.abandonedFor n m := fun m => by
    rw [State.abandonedFor, h, State.abandonedFor]
  have htransfer : v.lane.transferWithout n = s.lane.transferWithout n := by
    rw [Lane.transferWithout, h, Lane.transferWithout]
  refine ((v.noted st F).dropFromTransfer_noted n st).trans ((State.noted_noted (v.transferDropped v n) st _ _).trans ?_)
  simp only [State.transferDropped, habandoned, htransfer]
  exact State.noted_congr _ _ fun m => congrArg (F m ++ undeliverableNews ·) (habandoned m)

/-- The transmit queues and the entries once the messages of the others that can no longer be delivered are returned (R116). -/
def State.returnsDone : State :=
  (v.setLane { v.lane with tx := s.queuesWithout n }).setAcks
    (v.acks.map (fun k a => if k = n then a else withoutFollowers (s.returnedFor n k) a))

theorem State.noted_returns (hv : s.joinedWithout v n) (htx : v.lane.tx = s.lane.tx.set n { urgent := [], normal := [] })
    (hsource : ∀ k c, ∀ m ∈ s.lane.queue k c, m.source = k) : (v.noted st F).returns n st =
    (s.returnsDone v n).noted st (fun m => F m ++ if m ≠ n then undeliverableNews (s.returnedFor n m) else []) := by
  have hqueue : ∀ m, m ≠ n → ∀ c, v.lane.queue m c = s.lane.queue m c := fun m hm c => by
    cases c <;> simp only [Lane.queue, htx, PerStation.get_set_ne _ _ hm]
  have hreturning : ∀ m, m ≠ n → v.returning n m = s.returnedFor n m := fun m hm => State.returning_eq hv (hqueue m hm)
  have hsources : ∀ k c, ∀ m ∈ v.lane.queue k c, m.source = k := fun k c g hg => by
    by_cases hk : k = n
    · subst hk
      cases c <;> simp [Lane.queue, htx] at hg
    · exact hsource k c g (hqueue k hk c ▸ hg)
  have hdone : v.returnsTaken n (stations.filter (· ≠ n)) = s.returnsDone v n := by
    have hlane : v.lane.tx.map (fun k q => if k ∈ stations.filter (· ≠ n) then v.unreturned n k q else q) =
        s.queuesWithout n := PerStation.ext_get fun m => by
      rw [State.queuesWithout, PerStation.get_map, PerStation.get_map, htx, PerStation.get_set]
      by_cases hm : m = n
      · simp [hm]
      · simp [hm, mem_stations, State.unreturned_eq hv]
    have hacks : v.acks.map (fun k a => if k ∈ stations.filter (· ≠ n) then withoutFollowers (v.returning n k) a else a) =
        v.acks.map (fun k a => if k = n then a else withoutFollowers (s.returnedFor n k) a) :=
      PerStation.ext_get fun m => by
        rw [PerStation.get_map, PerStation.get_map]
        by_cases hm : m = n
        · simp [hm]
        · simp [hm, mem_stations, hreturning m hm]
    rw [State.returnsTaken, hlane, hacks]
    rfl
  refine ((v.noted st F).returns_noted n st hsources).trans
    ((State.noted_noted (v.returnsTaken n (stations.filter (· ≠ n))) st _ _).trans ?_)
  rw [hdone]
  refine State.noted_congr _ _ fun m => congrArg (F m ++ ·) ?_
  split
  · next hm => exact congrArg undeliverableNews (hreturning m hm)
  · rfl

/-- The entries of the other stations without those that await n (R147). -/
def State.awaitedResolved : State :=
  v.setAcks (v.acks.map (fun k l => if k = n then l else l.filter (fun a => !a.deliveredTo n)))

theorem State.noted_ackResolve : (v.noted st F).ackResolve n st =
    (v.awaitedResolved n).noted st (fun m => F m ++ if m ≠ n then unackedNews n (v.acks.get m) else []) :=
  ((v.noted st F).ackResolve_noted n st).trans (State.noted_noted (v.awaitedResolved n) st _ _)

theorem State.noted_emptyQueue_congr {F G : Station → List Event} (h : ∀ m, m ≠ n → F m = G m) :
    (v.noted st F).emptyQueue n = (v.noted st G).emptyQueue n := by
  have hevents : (v.noted st F).events.set n emptyEvents = (v.noted st G).events.set n emptyEvents :=
    PerStation.ext_get fun m => by
      rw [PerStation.get_set, PerStation.get_set, State.noted_events, State.noted_events]
      split
      · rfl
      · next hm => rw [h m hm]
  rw [State.emptyQueue, State.setQueue, hevents]
  rfl

end

/-! ## The records of a departure -/

theorem undeliverableNews_append (a b : List Message) :
    undeliverableNews (a ++ b) = undeliverableNews a ++ undeliverableNews b := List.map_append

theorem State.holdsRole_iff (s : State) (n : Station) : s.holdsRole n = true ↔ s.registry.coordinator = some n := beq_iff_eq

/-- STATION_CHANGED and COORDINATOR_CHANGED for another station. -/
theorem State.changeNews_eq {s v : State} {n m : Station} (hv : s.joinedWithout v n) (hm : m ≠ n) (x : StationState)
    (c : Cause) : (if v.joined m then
      Event.stationChanged n x c :: (if s.holdsRole n then [.coordinatorChanged none] else []) else []) =
        s.changeNews n m x c := by
  rw [hv m, State.changeNews]
  simp only [hm, ne_eq, not_false_eq_true, decide_true, Bool.true_and, State.holdsRole_iff]

/-- The members' queues with events appended, but for n's, which is emptied. -/
theorem emptied_events {s v : State} (st : Stamp) {n : Station} (G : Station → List Event) (he : v.events = s.events)
    (hp : ∀ m, m ≠ n → v.present m = s.present m) : ((v.noted st G).emptyQueue n).events =
      s.events.map (fun m q => if m = n then emptyEvents else if s.present m then q.appendAll (stamped st (G m)) else q) := by
  refine PerStation.ext_get fun m => ?_
  rw [PerStation.get_map]
  refine (PerStation.get_set _ _ _ _).trans ?_
  split
  · rfl
  · next hm => rw [State.noted_events, hp m hm, he]

/-! ## An abrupt departure (R26) -/

/-- The blocks but for the event queues after an abrupt departure of n, before the others' entries that await n are resolved. -/
def State.departing (s : State) (n : Station) (r : StationRec) : State :=
  let emptied := ((((s.recordOf n r).setSlotMap (s.slotMap.map (SlotEntry.rolesMarked n true))).discardChanges n).setRing n
    emptyRing).discardQueues n
  (s.returnsDone ((s.transferDropped emptied n).emptyReceive n) n).ackClear n

/-- The entries of another station follow the messages it still has (R133, R143). -/
theorem State.departing_acks (s : State) (n : Station) (r : StationRec) (m : Station) : (s.departing n r).acks.get m =
    if m = n then [] else withoutFollowers (s.abandonedFor n m ++ s.returnedFor n m) (s.acks.get m) := by
  simp only [State.departing, State.ackClear, State.setAckList, State.returnsDone, State.transferDropped,
    State.emptyReceive, State.discardQueues, State.discardChanges, State.recordOf, State.setAcks_acks,
    State.setLane_acks, State.setRing_acks, State.setChanges_acks, State.setSlotMap_acks, State.setRegistry_acks,
    PerStation.get_map, PerStation.get_set]
  by_cases hm : m = n
  · simp only [hm, if_true]
  · simp only [hm, if_false, withoutFollowers_append]

/-- The blocks but for the event queues after an abrupt departure, each by itself. -/
theorem State.departing_resolved (s : State) (n : Station) (r : StationRec) : (s.departing n r).awaitedResolved n =
    { s.recordOf n r with
      slotMap := s.slotMap.map (SlotEntry.rolesMarked n true)
      changes := s.changes.filter (fun c => c.origin ≠ some n)
      rings := s.rings.set n emptyRing
      lane := { s.lane with
        tx := s.queuesWithout n
        rx := s.lane.rx.set n []
        transfer := s.lane.transferWithout n
        deferred := if s.lane.deferred = some n then none else s.lane.deferred }
      acks := s.acks.map (fun m l => if m = n then [] else
        (withoutFollowers (s.abandonedFor n m ++ s.returnedFor n m) l).filter (fun a => !a.deliveredTo n)) } := by
  refine State.ext_blocks rfl rfl rfl rfl rfl rfl rfl (PerStation.ext_get fun m => ?_) rfl rfl rfl rfl rfl
  simp only [State.awaitedResolved, State.setAcks_acks, PerStation.get_map, State.departing_acks]
  by_cases hm : m = n
  · simp only [hm, if_true]
  · simp only [hm, if_false]

/-- The records to another station of an abrupt departure of n, in their order (R153). -/
def State.departureNews (s : State) (n : Station) (x : StationState) (c : Cause) (m : Station) : List Event :=
  s.changeNews n m x c ++ s.goneNews n m ++ undeliverableNews (s.abandonedFor n m ++ s.returnedFor n m) ++
    unackedNews n (withoutFollowers (s.abandonedFor n m ++ s.returnedFor n m) (s.acks.get m))

theorem State.depart_noted (s : State) (n : Station) (x : StationState) (c : Cause) (st : Stamp) (hx : x.gone)
    (hsource : ∀ k c, ∀ m ∈ s.lane.queue k c, m.source = k) : s.depart n x c st =
      (((s.departing n ((s.station n).departed x c)).awaitedResolved n).noted st (s.departureNews n x c)).emptyQueue n := by
  have hgone : ((s.station n).departed x c).state ≠ .joined := by rcases hx with rfl | rfl <;> nofun
  have hv := s.recordOf_joinedWithout n ((s.station n).departed x c) hgone
  have hout : (s.recordOf n ((s.station n).departed x c)).joined n = false := by simpa using hv n
  unfold State.depart
  simp only
  rw [State.setStation_dropRole, State.announce_noted _ _ _ _ _ _ hout, State.noted_orphanRoles,
    State.noted_discardChanges, State.noted_setRing, State.noted_discardQueues, State.noted_dropFromTransfer s,
    State.noted_emptyReceive, State.noted_returns s, State.noted_ackClear, State.noted_ackResolve]
  · refine State.noted_emptyQueue_congr _ _ _ fun m hm => ?_
    have hacks := s.departing_acks n ((s.station n).departed x c) m
    rw [if_neg hm] at hacks
    rw [State.changeNews_eq hv hm, State.goneEvents_eq _ _ _ hm, if_pos hm, if_pos hm]
    show _ ++ unackedNews n ((s.departing n ((s.station n).departed x c)).acks.get m) = _
    rw [hacks, State.departureNews, undeliverableNews_append, List.append_assoc _ (undeliverableNews (s.abandonedFor n m))]
    rfl
  · exact hv
  · rfl
  · exact hsource
  · rfl

/-- An abrupt departure as the state of every block at once. -/
theorem State.depart_eq (s : State) (n : Station) (x : StationState) (c : Cause) (st : Stamp) (hx : x.gone)
    (hsource : ∀ k c, ∀ m ∈ s.lane.queue k c, m.source = k) : s.depart n x c st = s.withoutStation n x c st := by
  rw [s.depart_noted n x c st hx hsource, State.departing_resolved]
  refine State.ext_blocks rfl rfl rfl rfl rfl rfl rfl rfl ?_ rfl rfl rfl rfl
  exact emptied_events (s := s) st _ rfl fun m hm => (s.recordOf_present n m _).trans (if_neg hm)

/-! ## LEAVE (R30) -/

/-- The blocks but for the event queues after an accepted LEAVE of n. -/
def State.leavingBlocks (s : State) (n : Station) (r : StationRec) : State :=
  (s.returnsDone ((((s.recordOf n r).setSlotMap (s.slotMap.map (SlotEntry.rolesMarked n false))).discardChanges n).discardQueues
    n) n).ackClear n

theorem State.leavingBlocks_eq (s : State) (n : Station) (r : StationRec) : s.leavingBlocks n r =
    { s.recordOf n r with
      slotMap := s.slotMap.map (SlotEntry.rolesMarked n false)
      changes := s.changes.filter (fun c => c.origin ≠ some n)
      lane := { s.lane with
        tx := s.queuesWithout n
        deferred := if s.lane.deferred = some n then none else s.lane.deferred }
      acks := s.acks.map (fun m l => if m = n then [] else withoutFollowers (s.returnedFor n m) l) } := by
  refine State.ext_blocks rfl rfl rfl rfl rfl rfl rfl (PerStation.ext_get fun m => ?_) rfl rfl rfl rfl rfl
  refine (PerStation.get_set _ _ _ _).trans ?_
  rw [PerStation.get_map]
  by_cases hm : m = n
  · simp only [hm, if_true]
  · rw [if_neg hm, if_neg hm]
    exact (PerStation.get_map _ _ _).trans (if_neg hm)

/-- The records to a station of a LEAVE of n, in their order (R153). -/
def State.leaveNews (s : State) (n m : Station) : List Event :=
  if m ≠ n then s.changeNews n m .leaving .left ++ undeliverableNews (s.returnedFor n m) else []

theorem State.leave_noted (s : State) (n : Station) (st : Stamp)
    (hsource : ∀ k c, ∀ m ∈ s.lane.queue k c, m.source = k) : s.leave n st =
      (s.leavingBlocks n { s.station n with state := .leaving }).noted st (s.leaveNews n) := by
  have hv := s.recordOf_joinedWithout n { s.station n with state := .leaving } nofun
  have hout : (s.recordOf n { s.station n with state := .leaving }).joined n = false := by simpa using hv n
  unfold State.leave
  simp only
  rw [State.setStation_dropRole, State.announce_noted _ _ _ _ _ _ hout, State.noted_markRoles, State.noted_discardChanges,
    State.noted_discardQueues, State.noted_returns s, State.noted_ackClear]
  · refine State.noted_congr _ _ fun m => ?_
    unfold State.leaveNews
    by_cases hm : m = n
    · subst hm; simp [hout]
    · rw [State.changeNews_eq hv hm, if_pos hm, if_pos hm]
  · exact hv
  · rfl
  · exact hsource

/-- A LEAVE as the state of every block at once. -/
theorem State.leave_eq (s : State) (n : Station) (st : Stamp)
    (hsource : ∀ k c, ∀ m ∈ s.lane.queue k c, m.source = k) : s.leave n st = s.withLeaving n st := by
  rw [s.leave_noted n st hsource, State.leavingBlocks_eq]
  refine State.ext_blocks rfl rfl rfl rfl rfl rfl rfl rfl (PerStation.ext_get fun m => ?_) rfl rfl rfl rfl
  refine (State.noted_events _ _ _ _).trans ((if_congr (Bool.eq_iff_iff.mp (s.recordOf_present n m _)) rfl rfl).trans ?_)
  refine Eq.trans ?_ (PerStation.get_map _ _ _).symm
  unfold State.leaveNews
  by_cases hm : m = n
  · simp only [hm, ne_eq, not_true_eq_false, if_false, false_and, if_true]
    exact ite_self (s.events.get n)
  · simp only [hm, ne_eq, not_false_eq_true, if_true, if_false, true_and]
    rfl

/-! ## The end of LEAVING (R31) -/

/-- A station without the role has its record replaced and nothing more. -/
theorem State.recordOf_of_no_role (s : State) (n : Station) (r : StationRec) (h : s.registry.coordinator ≠ some n) :
    s.recordOf n r = s.setStation n r := by rw [State.recordOf, if_neg h, State.setStation]

/-- The blocks but for the event queues after the end of LEAVING of n. -/
def State.leftBlocks (s : State) (n : Station) (r : StationRec) : State :=
  (s.returnsDone (((((s.setStation n r).setSlotMap (s.slotMap.map (SlotEntry.rolesMarked n true))).discardChanges n).setRing n
    emptyRing).emptyReceive n) n).awaitedResolved n

theorem State.leftBlocks_eq (s : State) (n : Station) (r : StationRec) : s.leftBlocks n r =
    { s.setStation n r with
      slotMap := s.slotMap.map (SlotEntry.rolesMarked n true)
      changes := s.changes.filter (fun c => c.origin ≠ some n)
      rings := s.rings.set n emptyRing
      lane := { s.lane with tx := s.queuesWithout n, rx := s.lane.rx.set n [] }
      acks := s.acks.map (fun m l =>
        if m = n then l else (withoutFollowers (s.returnedFor n m) l).filter (fun a => !a.deliveredTo n)) } := by
  refine State.ext_blocks rfl rfl rfl rfl rfl rfl rfl (PerStation.ext_get fun m => ?_) rfl rfl rfl rfl rfl
  refine (PerStation.get_map _ _ _).trans ?_
  rw [PerStation.get_map, show (s.returnsDone _ n).acks.get m = _ from PerStation.get_map _ _ _]
  by_cases hm : m = n
  · simp only [hm, if_true]
    rfl
  · simp only [hm, if_false]
    rfl

/-- The records to another station of the end of LEAVING of n, in their order (R153). -/
def State.leftNews (s : State) (n m : Station) : List Event :=
  (if s.joined m then [Event.stationChanged n .absent .left] else []) ++ s.goneNews n m ++
    undeliverableNews (s.returnedFor n m) ++ unackedNews n (withoutFollowers (s.returnedFor n m) (s.acks.get m))

theorem State.endLeaving_noted (s : State) (n : Station) (st : Stamp)
    (hempty : ∀ c, s.lane.queue n c = []) (hsource : ∀ k c, ∀ m ∈ s.lane.queue k c, m.source = k) : s.endLeaving n st =
      ((s.leftBlocks n ((s.station n).departed .absent .left)).noted st (s.leftNews n)).emptyQueue n := by
  have hv : s.joinedWithout (s.setStation n ((s.station n).departed .absent .left)) n :=
    s.recordOf_joinedWithout n ((s.station n).departed .absent .left) nofun
  have hout : (s.setStation n ((s.station n).departed .absent .left)).joined n = false := by simpa using hv n
  unfold State.endLeaving
  simp only
  rw [State.announce_noted _ _ _ _ _ _ hout, State.noted_orphanRoles, State.noted_discardChanges, State.noted_setRing,
    State.noted_emptyReceive, State.noted_returns s, State.noted_ackResolve]
  · refine State.noted_emptyQueue_congr _ _ _ fun m hm => ?_
    rw [hv m, State.goneEvents_eq _ _ _ hm, if_pos hm, if_pos hm,
      show (s.returnsDone _ n).acks.get m = _ from PerStation.get_map _ _ _, if_neg hm]
    simp only [hm, ne_eq, not_false_eq_true, decide_true, Bool.true_and]
    rfl
  · exact hv
  · show s.lane.tx = s.lane.tx.set n _
    refine PerStation.ext_get fun m => ?_
    rw [PerStation.get_set]
    split
    · next hm =>
      subst hm
      have hu := hempty .urgent
      have hn := hempty .normal
      exact congrArg₂ TxQueues.mk hu hn
    · rfl
  · exact hsource

/-- The end of LEAVING as the state of every block at once. -/
theorem State.endLeaving_eq (s : State) (n : Station) (st : Stamp) (hempty : ∀ c, s.lane.queue n c = [])
    (hsource : ∀ k c, ∀ m ∈ s.lane.queue k c, m.source = k) : s.endLeaving n st = s.withLeft n st := by
  rw [s.endLeaving_noted n st hempty hsource, State.leftBlocks_eq]
  refine State.ext_blocks rfl rfl rfl rfl rfl rfl rfl rfl ?_ rfl rfl rfl rfl
  exact emptied_events (s := s) st _ rfl fun m hm => (s.setStation_present n m _).trans (if_neg hm)

end Sys2Proof.Machine
end

section
/-! SUPPORT. The law of membership, block by block and update by update. -/

namespace Sys2Proof.Machine

/-- The law of membership, one field for each block. -/
structure State.Membership (s : State) : Prop where
  record : ∀ n, s.present n = false → (s.station n).name = 0 ∧ (s.station n).leaseCounter = 0 ∧ (s.station n).token = 0 ∧
    (s.station n).seqCounter = 0
  roles : ∀ n, s.present n = false → ∀ e ∈ s.slotMap, e.onlyOrphansOf n
  rings : ∀ n, s.present n = false → s.rings.get n = emptyRing
  received : ∀ n, s.present n = false → s.lane.rx.get n = []
  flight : ∀ n, s.present n = false → s.lane.inFlightAt n = false
  events : ∀ n, s.present n = false → s.events.get n = emptyEvents
  timings : ∀ n, s.present n = false → s.timings.get n = []
  queues : ∀ n, s.joined n = false → ∀ c, s.lane.queue n c = []
  acks : ∀ n, s.joined n = false → s.acks.get n = []
  changes : ∀ n, s.joined n = false → ∀ c ∈ s.changes, c.origin ≠ some n
  coordinator : ∀ n, s.joined n = false → s.registry.coordinator ≠ some n
  sources : ∀ n c, ∀ m ∈ s.lane.queue n c, m.source = n

theorem State.membershipLaw_iff (s : State) : s.membershipLaw ↔ s.Membership := by
  constructor
  · rintro ⟨hall, hsources⟩
    refine ⟨fun n hn => ?_, fun n hn => ?_, fun n hn => ?_, fun n hn => ?_, fun n hn => ?_, fun n hn => ?_, fun n hn => ?_,
      fun n hn c => ?_, fun n hn => ?_, fun n hn => ?_, fun n hn => ?_, hsources⟩
    case refine_8 =>
      obtain ⟨hurgent, hnormal, -⟩ := (hall n).2 hn
      cases c
      · exact hnormal
      · exact hurgent
    case refine_9 => exact ((hall n).2 hn).2.2.1
    case refine_10 => exact ((hall n).2 hn).2.2.2.1
    case refine_11 => exact ((hall n).2 hn).2.2.2.2
    all_goals obtain ⟨hname, hlease, htoken, hseq, hroles, hring, hrx, hflight, hevents, htimings⟩ := (hall n).1 hn
    · exact ⟨hname, hlease, htoken, hseq⟩
    · exact hroles
    · exact hring
    · exact hrx
    · exact hflight
    · exact hevents
    · exact htimings
  · intro h
    refine ⟨fun n => ⟨fun hn => ?_, fun hn => ?_⟩, h.sources⟩
    · obtain ⟨hname, hlease, htoken, hseq⟩ := h.record n hn
      exact ⟨hname, hlease, htoken, hseq, h.roles n hn, h.rings n hn, h.received n hn, h.flight n hn, h.events n hn,
        h.timings n hn⟩
    · exact ⟨h.queues n hn _, h.queues n hn _, h.acks n hn, h.changes n hn, h.coordinator n hn⟩

theorem State.joined_of_not_present {s : State} {n : Station} (h : s.present n = false) : s.joined n = false := by
  by_contra hj
  rw [State.present_of_joined (by simpa using hj)] at h
  cases h

/-- A member's record replaced by another member's record, JOINED if it was. -/
theorem State.Membership.setStation {s : State} (h : s.Membership) {n : Station} {r : StationRec} (hr : r.state = .joined) :
    (s.setStation n r).Membership := by
  have hout : ∀ m, (s.setStation n r).present m = false → m ≠ n ∧ s.present m = false := fun m hm => by
    rw [State.setStation_present] at hm
    split at hm
    · simp [hr] at hm
    · next hne => exact ⟨hne, hm⟩
  have hjoined : ∀ m, (s.setStation n r).joined m = false → s.joined m = false := fun m hm => by
    rw [State.setStation_joined] at hm
    split at hm
    · simp [hr] at hm
    · exact hm
  refine ⟨fun m hm => ?_, fun m hm => h.roles m (hout m hm).2, fun m hm => h.rings m (hout m hm).2,
    fun m hm => h.received m (hout m hm).2, fun m hm => h.flight m (hout m hm).2, fun m hm => h.events m (hout m hm).2,
    fun m hm => h.timings m (hout m hm).2, fun m hm => h.queues m (hjoined m hm), fun m hm => h.acks m (hjoined m hm),
    fun m hm => h.changes m (hjoined m hm), fun m hm => h.coordinator m (hjoined m hm), h.sources⟩
  obtain ⟨hne, hold⟩ := hout m hm
  rw [State.setStation_station, if_neg hne]
  exact h.record m hold

/-! ## Roles -/

theorem SlotEntry.onlyOrphansOf_raiseFlags {e : SlotEntry} {m : Station} (h : e.onlyOrphansOf m) (n : Station) (gone : Bool) :
    (e.raiseFlags n gone).onlyOrphansOf m := by
  obtain ⟨hproducer, hconsumers⟩ := h
  refine ⟨?_, fun c hc hm => ?_⟩
  · unfold SlotEntry.raiseFlags
    cases he : e.producer with
    | none => trivial
    | some p =>
      rw [he] at hproducer
      simp only [Option.map_some]
      split
      · exact fun hm => ⟨rfl, by simp [(hproducer hm).2]⟩
      · exact hproducer
  · obtain ⟨d, hd, rfl⟩ := List.mem_map.mp hc
    have hdm : d.station = m := by split at hm <;> exact hm
    obtain ⟨hdue, horphan⟩ := hconsumers d hd hdm
    split
    · exact ⟨rfl, by simp [horphan]⟩
    · exact ⟨hdue, horphan⟩

theorem SlotEntry.onlyOrphansOf_removeDue {e : SlotEntry} {m : Station} (h : e.onlyOrphansOf m) :
    e.removeDue.onlyOrphansOf m := by
  obtain ⟨hproducer, hconsumers⟩ := h
  refine ⟨?_, fun c hc => hconsumers c (List.mem_filter.mp hc).1⟩
  unfold SlotEntry.removeDue
  simp only
  split_ifs
  · trivial
  · exact hproducer

theorem SlotEntry.onlyOrphansOf_empty (m : Station) : emptyEntry.onlyOrphansOf m := ⟨trivial, nofun⟩

/-- A change that is applied gives a role to its origin alone. -/
theorem SlotEntry.onlyOrphansOf_applied {e : SlotEntry} {m : Station} (h : e.onlyOrphansOf m) (c : Change)
    (hc : c.origin ≠ some m) : (c.applied e).onlyOrphansOf m := by
  obtain ⟨hproducer, hconsumers⟩ := h
  unfold Change.applied
  split
  · next o ho => exact ⟨fun hm => absurd (ho.trans (congrArg some hm)) hc, hconsumers⟩
  · exact ⟨trivial, hconsumers⟩
  · exact ⟨trivial, hconsumers⟩
  · next o ho =>
    split
    · refine ⟨hproducer, fun d hd hm => ?_⟩
      obtain ⟨x, hx, rfl⟩ := List.mem_map.mp hd
      have hxm : x.station = m := by split at hm <;> exact hm
      split <;> exact hconsumers x hx hxm
    · refine ⟨hproducer, fun d hd hm => ?_⟩
      rcases List.mem_append.mp hd with hd | hd
      · exact hconsumers d hd hm
      · rw [List.mem_singleton.mp hd] at hm
        exact absurd (ho.trans (congrArg some hm)) hc
  · exact ⟨hproducer, fun d hd => hconsumers d (List.mem_filter.mp hd).1⟩
  · exact ⟨hproducer, hconsumers⟩

theorem onlyOrphansOf_onMap {l : List SlotEntry} {m : Station} (h : ∀ e ∈ l, e.onlyOrphansOf m) (c : Change)
    (hc : c.origin ≠ some m) : ∀ e ∈ c.onMap l, e.onlyOrphansOf m := by
  intro e he
  unfold Change.onMap at he
  split at he
  · rcases List.mem_or_eq_of_mem_set he with he | rfl
    · exact h e he
    · refine SlotEntry.onlyOrphansOf_applied ?_ c hc
      unfold mapEntry
      rcases Nat.lt_or_ge c.slot l.length with hk | hk
      · rw [List.getD_eq_getElem _ _ hk]; exact h _ (List.getElem_mem hk)
      · rw [List.getD_eq_default _ _ hk]; exact SlotEntry.onlyOrphansOf_empty m
  · exact h e he

/-- Only a member has a live consumer record. -/
theorem State.Membership.present_of_liveConsumer {s : State} (h : s.Membership) {n : Station}
    (hlive : ∃ x ∈ s.slotMap, x.liveConsumer n = true) : s.present n = true := by
  by_contra hn
  obtain ⟨e, he, hlive⟩ := hlive
  obtain ⟨c, hc, hcn⟩ := List.any_eq_true.mp hlive
  simp only [Consumer.live, Bool.and_eq_true, beq_iff_eq, Bool.not_eq_true'] at hcn
  have := ((h.roles n (by simpa using hn) e he).2 c hc hcn.1).2
  rw [hcn.2] at this
  cases this

/-! ## The lane -/

theorem Lane.inFlightAt_eq_false {l : Lane} {n : Station} :
    l.inFlightAt n = false ↔ ∀ t ∈ l.transfer, t.msg.source ≠ n ∧ n ∉ t.dests := by
  unfold Lane.inFlightAt Lane.sending Lane.reservedAt
  cases l.transfer <;> simp

theorem State.Membership.joined_of_queue {s : State} (h : s.Membership) {n : Station} {c : MsgClass} {m : Message}
    {rest : List Message} (hq : s.lane.queue n c = m :: rest) : s.joined n = true := by
  by_contra hn
  rw [h.queues n (by simpa using hn) c] at hq
  cases hq

/-- Each destination of a granted message is a member (R123). -/
theorem State.present_of_destination {s : State} {n : Station} {c : MsgClass} {m : Message} {rest : List Message}
    (hq : s.lane.queue n c = m :: rest) (hel : s.eligible n c = true) {k : Station} (hk : k ∈ s.destinationsOf m) :
    s.present k = true := by
  simp only [State.eligible, hq, List.head?_cons, Bool.and_eq_true] at hel
  obtain ⟨hready, -⟩ := hel
  unfold State.destinationsReady at hready
  unfold State.destinationsOf at hk
  cases hd : m.dest with
  | some d =>
    simp only [hd, List.mem_singleton, Bool.and_eq_true] at hk hready
    exact hk ▸ hready.1
  | none =>
    simp only [hd, List.mem_filter, decide_eq_true_eq, Bool.and_eq_true] at hk
    exact State.present_of_joined hk.2.2

theorem State.Membership.grant {s : State} (h : s.Membership) {n : Station} {c : MsgClass} {m : Message} {rest : List Message}
    (hq : s.lane.queue n c = m :: rest) (hel : s.eligible n c = true) (d : Option Station) :
    (s.setLane { s.lane.setTxQueue n c rest with
        transfer := some { msg := m, dests := s.destinationsOf m, remaining := m.laneLength }, pointer := n
        deferred := d }).Membership := by
  have hin := h.joined_of_queue hq
  have hqueue : ∀ k e, (s.lane.setTxQueue n c rest).queue k e = if k = n ∧ e = c then rest else s.lane.queue k e := fun k e =>
    s.lane.setTxQueue_queue n k c e rest
  refine { h with received := fun k hk => ?_, flight := fun k hk => ?_, queues := fun k hk e => ?_, sources := fun k e g hg => ?_ }
  · show (s.lane.setTxQueue n c rest).rx.get k = []
    rw [Lane.setTxQueue_rx]
    exact h.received k hk
  · refine Lane.inFlightAt_eq_false.mpr fun t ht => ?_
    cases ht
    have hout : s.present k = false := hk
    refine ⟨fun hsource => ?_, fun hdest => ?_⟩
    · have hmine : m.source = n := h.sources n c m (by rw [hq]; exact List.mem_cons_self)
      rw [← hsource, hmine, State.present_of_joined hin] at hout
      cases hout
    · rw [State.present_of_destination hq hel hdest] at hout
      cases hout
  · refine (hqueue k e).trans ?_
    have hne : k ≠ n := by
      rintro rfl
      have hout : s.joined k = false := hk
      rw [hin] at hout
      cases hout
    rw [if_neg fun hke => hne hke.1]
    exact h.queues k hk e
  · replace hg : g ∈ (s.lane.setTxQueue n c rest).queue k e := hg
    rw [hqueue] at hg
    split at hg
    · next hke =>
      obtain ⟨rfl, rfl⟩ := hke
      exact h.sources k e g (hq ▸ List.mem_cons_of_mem m hg)
    · exact h.sources k e g hg

theorem State.Membership.setQueue {s : State} (h : s.Membership) (n : Station) (c : MsgClass) (q : List Message)
    (hempty : s.joined n = false → q = []) (hsource : ∀ m ∈ q, m.source = n) :
    (s.setLane (s.lane.setTxQueue n c q)).Membership := by
  have hqueue : ∀ k e, (s.lane.setTxQueue n c q).queue k e = if k = n ∧ e = c then q else s.lane.queue k e := fun k e =>
    s.lane.setTxQueue_queue n k c e q
  refine { h with received := fun k hk => ?_, flight := fun k hk => ?_, queues := fun k hk e => ?_, sources := fun k e g hg => ?_ }
  · rw [State.setLane_lane, Lane.setTxQueue_rx]
    exact h.received k hk
  · rw [State.setLane_lane, Lane.inFlightAt_eq_false, Lane.setTxQueue_transfer]
    exact Lane.inFlightAt_eq_false.mp (h.flight k hk)
  · refine (hqueue k e).trans ?_
    split
    · next hke => exact hempty (hke.1 ▸ hk)
    · exact h.queues k hk e
  · replace hg : g ∈ (s.lane.setTxQueue n c q).queue k e := hg
    rw [hqueue] at hg
    split at hg
    · next hke => rw [hke.1]; exact hsource g hg
    · exact h.sources k e g hg

/-! ## The updates -/

theorem State.raise_events_out {s : State} {n : Station} (hn : s.present n = false) (m : Station) (st : Stamp) (e : Event) :
    (s.raise m st e).events.get n = s.events.get n := by
  cases hm : s.present m with
  | false => rw [State.raise_of_not_present hm]
  | true =>
    rw [State.raise_of_present hm, State.setQueue_events, PerStation.get_set, if_neg]
    rintro rfl
    rw [hm] at hn
    cases hn

theorem nil_of_map_sublist_nil {α β : Type} {f : α → β} {l k : List α} (h : (l.map f).Sublist (k.map f)) (hk : k = []) :
    l = [] := by
  subst hk
  exact List.map_eq_nil_iff.mp (List.sublist_nil.mp h)

/-- A block of one station changed while it is a member, the others left. -/
theorem PerStation.get_set_out {α : Type} {v : PerStation α} {p n : Station} {f : Station → Bool} (hp : f p = true)
    (hn : f n = false) (a : α) : (v.set p a).get n = v.get n := by
  refine PerStation.get_set_ne _ _ ?_
  rintro rfl
  rw [hp] at hn
  cases hn

theorem State.Update.membership (s t : State) (h : State.Update s t) (hs : s.Membership) : t.Membership := by
  cases h with
  | timings =>
    rw [State.raiseTimings_eq]
    refine { hs with events := fun n hn => ?_, timings := fun n _ => PerStation.get_all _ n }
    have hn : s.present n = false := hn
    refine (PerStation.get_map _ _ _).trans ((if_neg ?_).trans (hs.events n hn))
    exact Bool.eq_false_iff.mp hn
  | raise n st e =>
    rw [State.raise_eq]
    refine { hs with events := fun k hk => ?_ }
    have hout : s.present k = false := hk
    exact (State.raise_events_out hout n st e).trans (hs.events k hout)
  | queue p q hin hlaw =>
    exact { hs with events := fun k hk => (PerStation.get_set_out hin hk q).trans (hs.events k hk) }
  | emptyQueue n =>
    refine { hs with events := fun k hk => ?_, timings := fun k hk => ?_ }
    · refine (PerStation.get_set _ _ _ _).trans ?_
      split
      · rfl
      · exact hs.events k hk
    · refine (PerStation.get_set _ _ _ _).trans ?_
      split
      · rfl
      · exact hs.timings k hk
  | join p name hout hname => exact hs.setStation rfl
  | renew p tok hin => exact hs.setStation (by simpa [State.joined] using hin)
  | lease n k hin hpos hle => exact hs.setStation (by simpa [State.joined] using hin)
  | seq p b hin => exact hs.setStation (by simpa [State.joined] using hin)
  | coordinator c hin =>
    refine { hs with coordinator := fun n hn hc => ?_ }
    have hn : s.joined n = false := hn
    rw [hin n hc] at hn
    cases hn
  | flags n gone =>
    refine { hs with roles := fun k hk e he => ?_ }
    obtain ⟨x, hx, rfl⟩ := List.mem_map.mp he
    exact SlotEntry.onlyOrphansOf_raiseFlags (hs.roles k hk x hx) n gone
  | removals =>
    refine { hs with roles := fun k hk e he => ?_ }
    obtain ⟨x, hx, rfl⟩ := List.mem_map.mp he
    exact SlotEntry.onlyOrphansOf_removeDue (hs.roles k hk x hx)
  | change c hc hok =>
    exact { hs with roles := fun k hk =>
      onlyOrphansOf_onMap (hs.roles k hk) c (hs.changes k (State.joined_of_not_present hk) c hc) }
  | fewerChanges l hl => exact { hs with changes := fun n hn c hc => hs.changes n hn c (hl.subset hc) }
  | stage o k j hroom hj hk hin =>
    refine { hs with changes := fun n hn c hc => ?_ }
    rcases List.mem_append.mp hc with hc | hc
    · exact hs.changes n hn c hc
    · rw [List.mem_singleton.mp hc]
      intro ho
      have hn : s.joined n = false := hn
      rw [hin n ho] at hn
      cases hn
  | log n e hslot hlive =>
    have hin := hs.present_of_liveConsumer hlive
    exact { hs with rings := fun k hk => (PerStation.get_set_out hin hk _).trans (hs.rings k hk) }
  | drain p k hin => exact { hs with rings := fun k hk => (PerStation.get_set_out hin hk _).trans (hs.rings k hk) }
  | watermark p k hin hmin hmax =>
    exact { hs with rings := fun k hk => (PerStation.get_set_out hin hk _).trans (hs.rings k hk) }
  | clearRing n =>
    refine { hs with rings := fun k hk => (PerStation.get_set _ _ _ _).trans ?_ }
    split
    · rfl
    · exact hs.rings k hk
  | settings =>
    unfold Lane.withSettings
    split
    · exact { hs with }
    · exact hs
  | moveBytes t b ht hb =>
    refine { hs with flight := fun n hn => Lane.inFlightAt_eq_false.mpr fun u hu => ?_ }
    cases hu
    exact Lane.inFlightAt_eq_false.mp (hs.flight n hn) t ht
  | arrive t d ht =>
    refine { hs with received := fun n hn => ?_, flight := fun n hn => Lane.inFlightAt_eq_false.mpr nofun }
    have hout := (Lane.inFlightAt_eq_false.mp (hs.flight n hn) t ht).2
    exact (PerStation.get_map _ _ _).trans ((if_neg hout).trans (hs.received n hn))
  | grant n c m rest hq hel d => exact hs.grant hq hel d
  | abandon => exact { hs with flight := fun n hn => Lane.inFlightAt_eq_false.mpr nofun }
  | reserve t l ht hl =>
    refine { hs with flight := fun n hn => Lane.inFlightAt_eq_false.mpr fun u hu => ?_ }
    cases hu
    obtain ⟨hsource, hdest⟩ := Lane.inFlightAt_eq_false.mp (hs.flight n hn) t ht
    exact ⟨hsource, fun hn => hdest (hl.subset hn)⟩
  | fewerMessages n c q hq =>
    refine hs.setQueue n c q (fun hn => nil_of_map_sublist_nil hq (hs.queues n hn c)) fun m hm => ?_
    obtain ⟨g, hg, hgm⟩ := List.mem_map.mp (hq.subset (List.mem_map_of_mem hm))
    have hsame : g.source = m.source := (congrArg Message.source hgm :)
    exact hsame ▸ hs.sources n c g hg
  | receive n q hq =>
    refine { hs with received := fun k hk => (PerStation.get_set _ _ _ _).trans ?_ }
    split
    · next hkn => subst hkn; exact List.sublist_nil.mp (hs.received k hk ▸ hq)
    · exact hs.received k hk
  | enqueue p m hin hsource hlaw hposted hroom =>
    have hqueued := hs.setQueue p m.cls (s.lane.queue p m.cls ++ [m])
      (fun hn => by rw [hin] at hn; cases hn) (fun g hg => by
        rcases List.mem_append.mp hg with hg | hg
        · exact hs.sources p m.cls g hg
        · rw [List.mem_singleton.mp hg]; exact hsource)
    exact { hqueued with }
  | fewerAcks a ha =>
    exact { hs with acks := fun n hn => nil_of_map_sublist_nil (ha n) (hs.acks n hn) }
  | ackCreate n q tag d timeout hin hroom hfree hd =>
    exact { hs with acks := fun k hk => (PerStation.get_set_out hin hk _).trans (hs.acks k hk) }
  | _ => exact { hs with }

/-! ## The three changes of membership -/

theorem SlotEntry.onlyOrphansOf_marked (e : SlotEntry) (n : Station) : (e.raiseFlags n true).onlyOrphansOf n := by
  refine ⟨?_, fun c hc hn => ?_⟩
  · unfold SlotEntry.raiseFlags
    cases e.producer with
    | none => trivial
    | some p =>
      simp only [Option.map_some]
      split
      · exact fun _ => ⟨rfl, rfl⟩
      · next hne => exact fun hn => absurd hn hne
  · obtain ⟨d, -, rfl⟩ := List.mem_map.mp hc
    split at hn
    · next hd => rw [if_pos hd]; exact ⟨rfl, rfl⟩
    · next hd => exact absurd hn hd

theorem onlyOrphansOf_rolesMarked {l : List SlotEntry} {m : Station} (h : ∀ e ∈ l, e.onlyOrphansOf m) (n : Station)
    (gone : Bool) : ∀ e ∈ l.map (SlotEntry.rolesMarked n gone), e.onlyOrphansOf m := by
  intro e he
  obtain ⟨x, hx, rfl⟩ := List.mem_map.mp he
  rw [← SlotEntry.raiseFlags_eq_rolesMarked]
  exact SlotEntry.onlyOrphansOf_raiseFlags (h x hx) n gone

theorem onlyOrphansOf_orphaned (l : List SlotEntry) (n : Station) :
    ∀ e ∈ l.map (SlotEntry.rolesMarked n true), e.onlyOrphansOf n := by
  intro e he
  obtain ⟨x, -, rfl⟩ := List.mem_map.mp he
  rw [← SlotEntry.raiseFlags_eq_rolesMarked]
  exact x.onlyOrphansOf_marked n

/-- The queues of the lane once n's are gone and the others' unreachable messages are returned. -/
theorem State.queue_queuesWithout (s : State) (n : Station) {l : Lane} (h : l.tx = s.queuesWithout n) (m : Station)
    (c : MsgClass) : l.queue m c = if m = n then [] else (s.lane.queue m c).filter (fun g => !s.unreachable n m g) := by
  unfold Lane.queue
  rw [h, State.queuesWithout, PerStation.get_map]
  cases c <;> by_cases hm : m = n <;> simp [hm]

theorem Lane.flight_transferWithout {l k : Lane} {n m : Station} (h : k.transfer = l.transferWithout n)
    (hm : m = n ∨ l.inFlightAt m = false) : k.inFlightAt m = false := by
  rw [Lane.inFlightAt_eq_false, h]
  intro t ht
  unfold Lane.transferWithout at ht
  split at ht
  · cases ht
  · next u hu =>
    have hold : m = n ∨ (u.msg.source ≠ m ∧ m ∉ u.dests) := hm.imp id fun hm => Lane.inFlightAt_eq_false.mp hm u hu
    split_ifs at ht with hsource hdest hlast
    · cases ht
    · cases ht
    · cases ht
      rcases hold with rfl | ⟨hne, hnot⟩
      · exact ⟨hsource, by simp⟩
      · exact ⟨hne, fun hmem => hnot (List.mem_filter.mp hmem).1⟩
    · cases ht
      rcases hold with rfl | hold
      · exact ⟨hsource, hdest⟩
      · exact hold

/-- The registry once n is out: n is no member, the others are what they were. -/
theorem State.present_out {s t : State} {n : Station} {r : StationRec} (hr : r.state ≠ .joined ∧ r.state ≠ .leaving)
    (h : t.registry.stations = s.registry.stations.set n r) (m : Station) :
    t.station m = (if m = n then r else s.station m) ∧ t.present m = (m ≠ n && s.present m) ∧
      t.joined m = (m ≠ n && s.joined m) := by
  have hstation : t.station m = if m = n then r else s.station m := by rw [State.station, h, PerStation.get_set]; rfl
  refine ⟨hstation, ?_, ?_⟩
  · rw [State.present, hstation]
    by_cases hm : m = n
    · simp [hm, hr.1, hr.2]
    · simp [hm, State.present]
  · rw [State.joined, hstation]
    by_cases hm : m = n
    · simp [hm, hr.1]
    · simp [hm, State.joined]

theorem State.Membership.withoutStation {s : State} (h : s.Membership) (n : Station) (x : StationState) (c : Cause) (st : Stamp)
    (hx : x.gone) : (s.withoutStation n x c st).Membership := by
  have hgone : x ≠ .joined ∧ x ≠ .leaving := by rcases hx with rfl | rfl <;> exact ⟨nofun, nofun⟩
  have hrecords := State.present_out (s := s) (t := s.withoutStation n x c st) (n := n) (r := { s.station n with
    state := x, cause := c, leaseCounter := 0, name := 0, token := 0, seqCounter := 0 }) hgone rfl
  have hout : ∀ m, (s.withoutStation n x c st).present m = false → m = n ∨ s.present m = false := fun m hm => by
    rw [(hrecords m).2.1] at hm
    by_cases hmn : m = n
    · exact .inl hmn
    · exact .inr (by simpa [hmn] using hm)
  have hleft : ∀ m, (s.withoutStation n x c st).joined m = false → m = n ∨ s.joined m = false := fun m hm => by
    rw [(hrecords m).2.2] at hm
    by_cases hmn : m = n
    · exact .inl hmn
    · exact .inr (by simpa [hmn] using hm)
  have hqueue := s.queue_queuesWithout n (l := (s.withoutStation n x c st).lane) rfl
  refine ⟨fun m hm => ?_, fun m hm => ?_, fun m hm => ?_, fun m hm => ?_, fun m hm => ?_, fun m hm => ?_, fun m hm => ?_,
    fun m hm d => ?_, fun m hm => ?_, fun m hm g hg => ?_, fun m hm => ?_, fun m d g hg => ?_⟩
  · rw [(hrecords m).1]
    rcases hout m hm with rfl | hm
    · rw [if_pos rfl]; exact ⟨rfl, rfl, rfl, rfl⟩
    · split
      · exact ⟨rfl, rfl, rfl, rfl⟩
      · exact h.record m hm
  · rcases hout m hm with rfl | hm
    · exact onlyOrphansOf_orphaned s.slotMap m
    · exact onlyOrphansOf_rolesMarked (h.roles m hm) n true
  · refine (PerStation.get_set _ _ _ _).trans ?_
    rcases hout m hm with rfl | hm
    · rw [if_pos rfl]
    · rw [h.rings m hm, ite_self]
  · refine (PerStation.get_set _ _ _ _).trans ?_
    rcases hout m hm with rfl | hm
    · rw [if_pos rfl]
    · rw [h.received m hm, ite_self]
  · exact Lane.flight_transferWithout rfl ((hout m hm).imp id (h.flight m))
  · refine (PerStation.get_map _ _ _).trans ?_
    rcases hout m hm with rfl | hm
    · rw [if_pos rfl]
    · rw [if_neg (Bool.eq_false_iff.mp hm), h.events m hm, ite_self]
  · refine (PerStation.get_set _ _ _ _).trans ?_
    rcases hout m hm with rfl | hm
    · rw [if_pos rfl]
    · rw [h.timings m hm, ite_self]
  · rw [hqueue]
    rcases hleft m hm with rfl | hm
    · rw [if_pos rfl]
    · rw [h.queues m hm d, List.filter_nil, ite_self]
  · refine (PerStation.get_map _ _ _).trans ?_
    rcases hleft m hm with rfl | hm
    · rw [if_pos rfl]
    · rw [h.acks m hm]; exact ite_self _
  · obtain ⟨hg, hne⟩ := List.mem_filter.mp hg
    rcases hleft m hm with rfl | hm
    · simpa using hne
    · exact h.changes m hm g hg
  · show (if s.registry.coordinator = some n then none else s.registry.coordinator) ≠ some m
    split
    · nofun
    · next hne =>
      rcases hleft m hm with rfl | hm
      · exact hne
      · exact h.coordinator m hm
  · rw [hqueue] at hg
    split at hg
    · cases hg
    · exact h.sources m d g (List.mem_filter.mp hg).1

theorem State.Membership.withLeft {s : State} (h : s.Membership) (n : Station) (st : Stamp)
    (hleaving : (s.station n).state = .leaving) (hquiet : s.lane.inFlightAt n = false) : (s.withLeft n st).Membership := by
  have hnotJoined : s.joined n = false := by simp [State.joined, hleaving]
  have hrecords := State.present_out (s := s) (t := s.withLeft n st) (n := n) (r := { s.station n with
    state := .absent, cause := .left, leaseCounter := 0, name := 0, token := 0, seqCounter := 0 }) ⟨nofun, nofun⟩ rfl
  have hout : ∀ m, (s.withLeft n st).present m = false → m = n ∨ s.present m = false := fun m hm => by
    rw [(hrecords m).2.1] at hm
    by_cases hmn : m = n
    · exact .inl hmn
    · exact .inr (by simpa [hmn] using hm)
  have hleft : ∀ m, (s.withLeft n st).joined m = false → s.joined m = false := fun m hm => by
    rw [(hrecords m).2.2] at hm
    by_cases hmn : m = n
    · exact hmn ▸ hnotJoined
    · simpa [hmn] using hm
  have hqueue := s.queue_queuesWithout n (l := (s.withLeft n st).lane) rfl
  refine ⟨fun m hm => ?_, fun m hm => ?_, fun m hm => ?_, fun m hm => ?_, fun m hm => ?_, fun m hm => ?_, fun m hm => ?_,
    fun m hm d => ?_, fun m hm => ?_, fun m hm g hg => ?_, fun m hm => ?_, fun m d g hg => ?_⟩
  · rw [(hrecords m).1]
    rcases hout m hm with rfl | hm
    · rw [if_pos rfl]; exact ⟨rfl, rfl, rfl, rfl⟩
    · split
      · exact ⟨rfl, rfl, rfl, rfl⟩
      · exact h.record m hm
  · rcases hout m hm with rfl | hm
    · exact onlyOrphansOf_orphaned s.slotMap m
    · exact onlyOrphansOf_rolesMarked (h.roles m hm) n true
  · refine (PerStation.get_set _ _ _ _).trans ?_
    rcases hout m hm with rfl | hm
    · rw [if_pos rfl]
    · rw [h.rings m hm, ite_self]
  · refine (PerStation.get_set _ _ _ _).trans ?_
    rcases hout m hm with rfl | hm
    · rw [if_pos rfl]
    · rw [h.received m hm, ite_self]
  · rcases hout m hm with rfl | hm
    · exact hquiet
    · exact h.flight m hm
  · refine (PerStation.get_map _ _ _).trans ?_
    rcases hout m hm with rfl | hm
    · rw [if_pos rfl]
    · rw [if_neg (Bool.eq_false_iff.mp hm), h.events m hm, ite_self]
  · refine (PerStation.get_set _ _ _ _).trans ?_
    rcases hout m hm with rfl | hm
    · rw [if_pos rfl]
    · rw [h.timings m hm, ite_self]
  · rw [hqueue, h.queues m (hleft m hm) d, List.filter_nil, ite_self]
  · refine (PerStation.get_map _ _ _).trans ?_
    rw [h.acks m (hleft m hm)]
    exact ite_self _
  · exact h.changes m (hleft m hm) g (List.mem_filter.mp hg).1
  · exact h.coordinator m (hleft m hm)
  · rw [hqueue] at hg
    split at hg
    · cases hg
    · exact h.sources m d g (List.mem_filter.mp hg).1

theorem State.Membership.withLeaving {s : State} (h : s.Membership) (n : Station) (st : Stamp) :
    (s.withLeaving n st).Membership := by
  have hstation : ∀ m, (s.withLeaving n st).station m =
      if m = n then { s.station n with state := .leaving } else s.station m := fun m => PerStation.get_set _ _ _ _
  have hout : ∀ m, (s.withLeaving n st).present m = false → m ≠ n ∧ s.present m = false := fun m hm => by
    rw [State.present, hstation] at hm
    by_cases hmn : m = n
    · simp [hmn] at hm
    · simp only [hmn, if_false] at hm
      exact ⟨hmn, hm⟩
  have hleft : ∀ m, (s.withLeaving n st).joined m = false → m = n ∨ s.joined m = false := fun m hm => by
    rw [State.joined, hstation] at hm
    by_cases hmn : m = n
    · exact .inl hmn
    · simp only [hmn, if_false] at hm
      exact .inr hm
  have hqueue := s.queue_queuesWithout n (l := (s.withLeaving n st).lane) rfl
  refine ⟨fun m hm => ?_, fun m hm => ?_, fun m hm => h.rings m (hout m hm).2, fun m hm => h.received m (hout m hm).2,
    fun m hm => h.flight m (hout m hm).2, fun m hm => ?_, fun m hm => h.timings m (hout m hm).2,
    fun m hm d => ?_, fun m hm => ?_, fun m hm g hg => ?_, fun m hm => ?_, fun m d g hg => ?_⟩
  · rw [hstation, if_neg (hout m hm).1]
    exact h.record m (hout m hm).2
  · exact onlyOrphansOf_rolesMarked (h.roles m (hout m hm).2) n false
  · refine (PerStation.get_map _ _ _).trans ((if_neg fun hin => ?_).trans (h.events m (hout m hm).2))
    rw [(hout m hm).2] at hin
    cases hin.2
  · rw [hqueue]
    rcases hleft m hm with rfl | hm
    · rw [if_pos rfl]
    · rw [h.queues m hm d, List.filter_nil, ite_self]
  · refine (PerStation.get_map _ _ _).trans ?_
    rcases hleft m hm with rfl | hm
    · rw [if_pos rfl]
    · rw [h.acks m hm]; exact ite_self _
  · obtain ⟨hg, hne⟩ := List.mem_filter.mp hg
    rcases hleft m hm with rfl | hm
    · simpa using hne
    · exact h.changes m hm g hg
  · show (if s.registry.coordinator = some n then none else s.registry.coordinator) ≠ some m
    split
    · nofun
    · next hne =>
      rcases hleft m hm with rfl | hm
      · exact hne
      · exact h.coordinator m hm
  · rw [hqueue] at hg
    split at hg
    · cases hg
    · exact h.sources m d g (List.mem_filter.mp hg).1

/-! ## Every step -/

theorem State.Membership.atBoundary {s : State} (h : s.Membership) (made : Timer) (news : List Event) :
    (s.atBoundary made news).Membership := by
  refine { h with timings := fun n hn => ?_ }
  have hout : s.joined n = false := State.joined_of_not_present (s := s) hn
  exact (PerStation.get_map _ _ _).trans ((if_neg (Bool.eq_false_iff.mp hout)).trans (h.timings n hn))

theorem State.Act.membership (s t : State) (h : State.Act s t) (hs : s.Membership) : t.Membership := by
  cases h with
  | boundary made news => exact hs.atBoundary made news
  | move h =>
    cases h with
    | update h => exact State.Update.membership _ _ h hs
    | depart n x c st hx => rw [s.depart_eq n x c st hx hs.sources]; exact hs.withoutStation n x c st hx
    | leave n st => rw [s.leave_eq n st hs.sources]; exact hs.withLeaving n st
    | endLeaving n st hleaving hquiet =>
      rw [s.endLeaving_eq n st (hs.queues n (by simp [State.joined, hleaving])) hs.sources]
      exact hs.withLeft n st hleaving hquiet

/-- Settles O59: each update keeps to members what only members hold, and the three changes of membership take it from the
station. -/
theorem stepKeepsTheMembershipLaw : Obligations.StepKeepsTheMembershipLaw := by
  intro s t hs h
  refine (State.membershipLaw_iff t).mpr (step_keeps_of_acts State.Act.membership (fun _ _ hs => { hs with }) (fun _ _ => ?_) s t
    (s.membershipLaw_iff.mp hs) h)
  exact { State.reset.membershipLaw_iff.mp State.reset_membershipLaw with }

end Sys2Proof.Machine
end

section
/-! SUPPORT. A request of the table on a selected port: refused by the registry, or served by its block; the requests of the
frame timer and of the registry. -/

namespace Sys2Proof.Machine

/-! ## Refused or served -/

theorem exec_refused {s : State} {p : Station} {r : Request} {ops : List Byte} {st : Status} (h : s.selected p)
    (hl : r.lengthOk ops.length = true) (hr : r ≠ .renew) (hrefused : s.registryRefusal p r = some st) :
    exec (r.instr p (requestFrame r.code ops)) s = .next (s.replied p r.code ops { status := st, results := [] }) := by
  have hanswer : s.answerTo p r ops = (s, refuse st) := by
    simp only [State.answerTo, s.countdownFirst_of_ne p r hr, hrefused]
  rw [exec_request s p r ops h hl, hanswer]
  rfl

theorem exec_served {s : State} {p : Station} {r : Request} {ops : List Byte} (h : s.selected p)
    (hl : r.lengthOk ops.length = true) (hr : r ≠ .renew) (hid : r ≠ .readIdentity) (hpass : s.registryRefusal p r = none)
    {t : State} {reply : Reply} (hserve : serve r p ops (s.readyFor r) = (t, reply)) :
    exec (r.instr p (requestFrame r.code ops)) s = .next (t.replied p r.code ops reply) := by
  have hanswer : s.answerTo p r ops = (t, reply) := by
    simp only [State.answerTo, s.countdownFirst_of_ne p r hr, hpass, if_neg hid, hserve]
  rw [exec_request s p r ops h hl, hanswer]

/-- A request at the registry or the timer is served once the TIMING of the boundary is in the queues (R153). -/
theorem exec_registry {s : State} {p : Station} {r : Request} {ops : List Byte} (h : s.selected p)
    (hl : r.lengthOk ops.length = true) (hr : r ≠ .renew) (hafter : Request.afterTiming r = true)
    (hpass : s.registryRefusal p r = none) {t : State} {reply : Reply}
    (hserve : serve r p ops s.timingFirst = (t, reply)) :
    exec (r.instr p (requestFrame r.code ops)) s = .next (t.replied p r.code ops reply) :=
  exec_served h hl hr (by rintro rfl; cases hafter) hpass ((s.readyFor_registry r hafter).symm ▸ hserve)

/-- Another request is served once lane work begun is finished (R120). -/
theorem exec_block {s : State} {p : Station} {r : Request} {ops : List Byte} (h : s.selected p)
    (hl : r.lengthOk ops.length = true) (hr : r ≠ .renew) (hid : r ≠ .readIdentity)
    (hafter : Request.afterTiming r = false) (hpass : s.registryRefusal p r = none) {t : State} {reply : Reply}
    (hserve : serve r p ops s.closeLane = (t, reply)) :
    exec (r.instr p (requestFrame r.code ops)) s = .next (t.replied p r.code ops reply) :=
  exec_served h hl hr hid hpass ((s.readyFor_other r hafter).symm ▸ hserve)

/-- From a JOINED station every request passes but JOIN, and those of the coordinator without the role (R20, R32). -/
theorem State.passes_of_joined {s : State} {p : Station} {r : Request} (hin : s.joined p = true) (hr : r ≠ .join)
    (hrole : Request.coordinatorOnly r = true → s.registry.coordinator = some p) : s.registryRefusal p r = none := by
  have hstate : (s.station p).state = .joined := by simpa [State.joined] using hin
  unfold State.registryRefusal requesterRefusal
  rw [hstate]
  simp only [if_neg hr]
  refine if_neg fun h => ?_
  obtain ⟨hc, hnot⟩ := Bool.and_eq_true_iff.mp h
  rw [(s.holdsRole_iff p).mpr (hrole hc)] at hnot
  cases hnot

/-- From a member the requests that pass from LEAVING pass (R20). -/
theorem State.passes_of_present {s : State} {p : Station} {r : Request} (hin : s.present p = true)
    (hl : Request.fromLeaving r = true) : s.registryRefusal p r = none := by
  have hjoin : r ≠ .join := by rintro rfl; cases hl
  have hfree : Request.coordinatorOnly r = false := by cases r <;> first | rfl | cases hl
  have hstate : (s.station p).state = .joined ∨ (s.station p).state = .leaving := by simpa [State.present] using hin
  unfold State.registryRefusal requesterRefusal
  rcases hstate with hstate | hstate <;> rw [hstate] <;> simp [hjoin, hl, hfree]

/-! ## The hub as a request at the registry or the timer finds it -/

theorem State.timingFirst_eq (s : State) : s.timingFirst = s.readyFor .join := (s.readyFor_registry .join rfl).symm

theorem State.timingFirst_updates (s : State) : State.Updates s s.timingFirst :=
  s.timingFirst_eq ▸ s.readyFor_updates .join

@[simp] theorem State.timingFirst_registry (s : State) : s.timingFirst.registry = s.registry :=
  s.timingFirst_eq ▸ s.readyFor_registry_eq .join

@[simp] theorem State.closeLane_timer (s : State) : s.closeLane.timer = s.timer := s.closeLane_same.timer

@[simp] theorem State.timingFirst_timer (s : State) : s.timingFirst.timer = s.timer := by
  unfold State.timingFirst
  simp only
  split
  · exact s.closeLane_timer
  · exact s.closeLane_timer

@[simp] theorem State.timingFirst_stamp (s : State) : s.timingFirst.stamp = stampOf s.timer.frame := by
  rw [State.stamp, State.timingFirst_timer]

theorem State.joined_congr {s t : State} (h : t.registry.stations = s.registry.stations) : t.joined = s.joined := by
  funext n
  simp only [State.joined, State.station, h]

theorem State.present_congr {s t : State} (h : t.registry.stations = s.registry.stations) : t.present = s.present := by
  funext n
  simp only [State.present, State.station, h]

@[simp] theorem State.timingFirst_station (s : State) (n : Station) : s.timingFirst.station n = s.station n := by
  simp only [State.station, State.timingFirst_registry]

@[simp] theorem State.timingFirst_joined (s : State) : s.timingFirst.joined = s.joined :=
  State.joined_congr (congrArg Registry.stations s.timingFirst_registry)

@[simp] theorem State.timingFirst_present (s : State) : s.timingFirst.present = s.present :=
  State.present_congr (congrArg Registry.stations s.timingFirst_registry)

/-! ## SET TIMING and READ FRAME (R13, R16) -/

theorem TimingMode.ofCode_zero_or_one {m : Byte} (h : m = 0 ∨ m = 1) :
    TimingMode.ofCode m = some (if m = 0 then .free else .follow) := by
  rcases h with rfl | rfl <;> rfl

theorem TimingMode.ofCode_other {m : Byte} (h : ¬ (m = 0 ∨ m = 1)) : TimingMode.ofCode m = none := by
  obtain ⟨hzero, hone⟩ := not_or.mp h
  rw [TimingMode.ofCode, if_neg hzero, if_neg hone]

theorem Timer.results_eq (t : Timer) : t.results =
    bytes32 t.frame ++ bytes16 (BitVec.ofNat 16 t.period) ++
      [(match t.mode with | .free => (0 : Byte) | .follow => 1),
       (match t.refState with | .off => (0 : Byte) | .seeking => 1 | .locked => 2 | .lost => 3)] ++
      bytes16 (BitVec.ofNat 16 t.lastInterval) ++ [byte t.faultCount, byte (16 - t.frame.toNat % 16)] ++
      (match t.pendingTiming with
        | none => [(0 : Byte), 0, 0, 0]
        | some r => 1 :: bytes16 (BitVec.ofNat 16 r.period) ++ [(match r.mode with | .free => (0 : Byte) | .follow => 1)]) := by
  unfold Timer.results
  cases t.pendingTiming with
  | none => simp only [List.append_assoc]; rfl
  | some r => simp only [List.append_assoc]; rfl

/-- Settles O11: what the two requests do to the timer, and that they find TIMING in the queues. -/
theorem setTimingAndReadFrame : Obligations.SetTimingAndReadFrame := by
  refine ⟨fun s p hi lo m hsel hin hrole => ⟨fun hfits => ?_, fun hunfit => ?_⟩, fun s p hsel hin => ?_⟩
  · refine exec_registry (r := .setTiming) hsel rfl nofun rfl (State.passes_of_joined hin nofun fun _ => hrole) ?_
    show serveSetTiming p [hi, lo, m] s.timingFirst = _
    unfold serveSetTiming
    simp only
    rw [show operand [hi, lo, m] 2 = m from rfl, TimingMode.ofCode_zero_or_one hfits.2]
    simp only
    refine (if_pos hfits.1).trans ?_
    rw [State.timingFirst_timer]
    rfl
  · refine exec_registry (r := .setTiming) hsel rfl nofun rfl (State.passes_of_joined hin nofun fun _ => hrole) ?_
    show serveSetTiming p [hi, lo, m] s.timingFirst = _
    unfold serveSetTiming
    simp only
    rw [show operand [hi, lo, m] 2 = m from rfl]
    by_cases hm : m = 0 ∨ m = 1
    · rw [TimingMode.ofCode_zero_or_one hm]
      simp only
      exact if_neg fun hperiod => hunfit ⟨hperiod, hm⟩
    · rw [TimingMode.ofCode_other hm]
      rfl
  · refine exec_registry (r := .readFrame) hsel rfl nofun rfl (State.passes_of_present hin rfl) ?_
    show serveReadFrame p [] s.timingFirst = _
    rw [serveReadFrame, State.timingFirst_timer, Timer.results_eq]
    rfl

/-! ## The requester check (R20) -/

theorem State.refused_of_requester {s : State} {p : Station} {r : Request} {x : StationState} {st : Status}
    (hx : (s.station p).state = x) (h : requesterRefusal x r = some st) : s.registryRefusal p r = some st := by
  rw [State.registryRefusal, hx, h]

/-- READ STATUS, READ IDENTITY and JOIN are the requests from outside. -/
theorem Request.fromOutside_iff (r : Request) : Request.fromOutside r = true ↔ r ∈ [.join, .readStatus, .readIdentity] := by
  cases r <;> decide

theorem Request.fromLeaving_iff (r : Request) : Request.fromLeaving r = true ↔
    r ∈ [.readStatus, .readFrame, .readIdentity, .detach, .publish, .readSlot, .drainRing, .takeMessage, .peekMessage, .ack,
      .queueStatus, .takeEvent] := by
  cases r <;> decide

/-- A RENEW from a station that is not JOINED is refused like every other request. -/
theorem exec_refused_out {s : State} {p : Station} {r : Request} {ops : List Byte} {st : Status} (h : s.selected p)
    (hl : r.lengthOk ops.length = true) (hin : r = .renew → s.joined p = false) (hrefused : s.registryRefusal p r = some st) :
    exec (r.instr p (requestFrame r.code ops)) s = .next (s.replied p r.code ops { status := st, results := [] }) := by
  have hfirst : s.countdownFirst p r = s := if_neg fun hrenew => by
    rw [hin hrenew.1] at hrenew
    cases hrenew.2
  have hanswer : s.answerTo p r ops = (s, refuse st) := by simp only [State.answerTo, hfirst, hrefused]
  rw [exec_request s p r ops h hl, hanswer]
  rfl

/-- Settles O12: the rows of the table of R20. -/
theorem requesterCheckTable : Obligations.RequesterCheckTable := by
  intro s p r ops hsel hl
  have hout : ∀ {x}, (s.station p).state = x → x ≠ .joined → r = .renew → s.joined p = false := fun hx hne _ => by
    simp [State.joined, hx, hne]
  refine ⟨fun hx hr => ?_, fun hx hr => ?_, fun hx hr hnot => ?_, fun hx hnot => ?_, fun hx hnot => ?_⟩
  · subst hr
    exact exec_refused hsel hl nofun (State.refused_of_requester hx rfl)
  · subst hr
    exact exec_refused hsel hl nofun (State.refused_of_requester hx rfl)
  · have hnot : ¬ Request.fromLeaving r = true := fun h => hnot ((Request.fromLeaving_iff r).mp h)
    exact exec_refused_out hsel hl (hout hx nofun)
      (State.refused_of_requester hx (by simp only [requesterRefusal, if_neg hr, if_neg hnot]))
  · have hnot : ¬ Request.fromOutside r = true := fun h => hnot ((Request.fromOutside_iff r).mp h)
    exact exec_refused_out hsel hl (hout hx nofun) (State.refused_of_requester hx (by simp only [requesterRefusal, if_neg hnot]))
  · have hnot : ¬ Request.fromOutside r = true := fun h => hnot ((Request.fromOutside_iff r).mp h)
    exact exec_refused_out hsel hl (hout hx nofun) (State.refused_of_requester hx (by simp only [requesterRefusal, if_neg hnot]))

/-! ## Coordinator requests without the role, and EVICT (R32, R29) -/

theorem Request.coordinatorOnly_iff (r : Request) : Request.coordinatorOnly r = true ↔
    r ∈ [.setTiming, .setLane, .setLease, .evict, .forceRelease] := by
  cases r <;> decide

theorem Station.ofNumber_number (n : Station) : Station.ofNumber n.number = some n := by cases n <;> rfl

theorem stationByte_toNat (n : Station) : (stationByte n).toNat = n.number := by cases n <;> rfl

theorem Station.ofNumber_none {k : Nat} (h : k = 0 ∨ 5 ≤ k) : Station.ofNumber k = none := by
  rcases h with rfl | h
  · rfl
  · obtain ⟨j, rfl⟩ := Nat.exists_eq_add_of_le' h
    rfl

/-- Settles O13: the role is missing, or EVICT names no station that it may evict. -/
theorem coordinatorRequestRefusals : Obligations.CoordinatorRequestRefusals := by
  refine ⟨fun s p r ops hsel hl hin hrole hr => ?_, fun s p x hsel hin hrole => ?_⟩
  · have hr := (Request.coordinatorOnly_iff r).mpr hr
    have hjoin : r ≠ .join := by rintro rfl; cases hr
    have hstate : (s.station p).state = .joined := by simpa [State.joined] using hin
    have hholds : s.holdsRole p = false := Bool.eq_false_iff.mpr fun h => hrole ((s.holdsRole_iff p).mp h)
    refine exec_refused hsel hl (by rintro rfl; cases hr) ?_
    rw [State.registryRefusal, hstate, requesterRefusal, if_neg hjoin]
    simp only [hr, hholds, Bool.not_false, Bool.and_self, if_true]
  · have hserved : ∀ {t reply}, serveEvict p [x] s.timingFirst = (t, reply) →
        exec (.evict p (requestFrame 0x0D [x])) s = .next (t.replied p 0x0D [x] reply) := fun hserve =>
      exec_registry (r := .evict) hsel rfl nofun rfl (State.passes_of_joined hin nofun fun _ => hrole) hserve
    refine ⟨fun hx => hserved ?_, fun hx => hserved ?_, fun n hn hx hout => hserved ?_⟩
    · have hnone : Station.ofNumber (operand [x] 0).toNat = none :=
        Station.ofNumber_none (hx.imp (fun h => by rw [h]; rfl) id)
      rw [serveEvict, hnone]
      rfl
    · have hself : Station.ofNumber (operand [x] 0).toNat = some p := by
        rw [hx, show operand [stationByte p] 0 = stationByte p from rfl, stationByte_toNat, Station.ofNumber_number]
      rw [serveEvict, hself]
      exact if_pos rfl
    · have hother : Station.ofNumber (operand [x] 0).toNat = some n := by
        rw [hx, show operand [stationByte n] 0 = stationByte n from rfl, stationByte_toNat, Station.ofNumber_number]
      rw [serveEvict, hother]
      simp only [if_neg hn, State.timingFirst_present, hout]
      rfl

/-! ## JOIN (R21 to R23) -/

theorem State.nameHeld_iff (s : State) (n : Station) (x : Name) : s.nameHeld n x = true ↔
    ∃ k, k ≠ n ∧ s.present k = true ∧ (s.station k).name = x := by
  unfold State.nameHeld
  rw [List.any_eq_true]
  constructor
  · rintro ⟨k, -, hk⟩
    simp only [Bool.and_eq_true, decide_eq_true_eq, beq_iff_eq] at hk
    exact ⟨k, hk.1.1, hk.1.2, hk.2⟩
  · rintro ⟨k, hne, hin, hname⟩
    exact ⟨k, mem_stations k, by simp [hne, hin, hname]⟩

theorem State.dropWork_joined (s : State) (w : Work) (n : Station) : (s.dropWork w).joined n = s.joined n := rfl

/-- Settles O14: the name decides, and the record, the countdown dropped and the notice to the others are the effect. -/
theorem joinMakesAMember : Obligations.JoinMakesAMember := by
  intro s p a b c d hsel hout
  have hpass : s.registryRefusal p .join = none := by
    have hstate : (s.station p).state ≠ .joined ∧ (s.station p).state ≠ .leaving := by simpa [State.present] using hout
    unfold State.registryRefusal requesterRefusal
    cases hx : (s.station p).state with
    | joined => exact absurd hx hstate.1
    | leaving => exact absurd hx hstate.2
    | absent | lapsed => rfl
  have hserved : ∀ {t reply}, serveJoin p [a, b, c, d] s.timingFirst = (t, reply) →
      exec (.join p (requestFrame 0x01 [a, b, c, d])) s = .next (t.replied p 0x01 [a, b, c, d] reply) := fun hserve =>
    exec_registry (r := .join) hsel rfl nofun rfl hpass hserve
  have hnameHeld : s.timingFirst.nameHeld p (operand32 [a, b, c, d] 0) = true ↔
      ∃ n, n ≠ p ∧ s.present n = true ∧ (s.station n).name = operand32 [a, b, c, d] 0 := by
    rw [State.nameHeld_iff]
    simp only [State.timingFirst_present, State.timingFirst_station]
  refine ⟨fun hfree => hserved ?_, fun htaken => hserved ?_⟩
  · unfold serveJoin
    simp only
    rw [if_neg fun h => hfree (hnameHeld.mp h), State.raiseToOthers_told]
    have hothers : (fun n => decide (n ≠ p) && (State.dropWork (State.setStation s.timingFirst p
        ((s.timingFirst.station p).joining (operand32 [a, b, c, d] 0) s.timingFirst.registry.leaseSetting
          s.timingFirst.timer.frame)) (.lease p)).joined n) = fun n => decide (n ≠ p) && s.joined n := by
      funext n
      by_cases hn : n = p
      · simp [hn]
      · rw [State.dropWork_joined, State.setStation_joined, if_neg hn, State.timingFirst_joined]
    rw [hothers, State.timingFirst_timer, State.timingFirst_registry, State.timingFirst_station]
    rfl
  · unfold serveJoin
    simp only
    rw [if_pos (hnameHeld.mpr htaken)]
    rfl

end Sys2Proof.Machine
end

section
/-! SUPPORT. The coordinator's requests, READ STATUS, and the changes of membership as commands. -/

namespace Sys2Proof.Machine

/-! ## The coordinator role (R33 to R36) -/

/-- Settles O20: the holder of the role decides. -/
theorem coordinatorRoleClaimedAndResigned : Obligations.CoordinatorRoleClaimedAndResigned := by
  intro s p hsel hin
  have hclaim : ∀ {t reply}, serveClaimCoordinator p [] s.timingFirst = (t, reply) →
      exec (.claimCoordinator p (requestFrame 0x08 [])) s = .next (t.replied p 0x08 [] reply) := fun hserve =>
    exec_registry (r := .claimCoordinator) hsel rfl nofun rfl (State.passes_of_joined hin nofun nofun) hserve
  have hresign : ∀ {t reply}, serveResign p [] s.timingFirst = (t, reply) →
      exec (.resign p (requestFrame 0x09 [])) s = .next (t.replied p 0x09 [] reply) := fun hserve =>
    exec_registry (r := .resign) hsel rfl nofun rfl (State.passes_of_joined hin nofun nofun) hserve
  have htold : ∀ c, (s.timingFirst.setCoordinator c).raiseToJoined s.timingFirst.stamp (.coordinatorChanged c) =
      (s.timingFirst.setCoordinator c).told s.joined (stampOf s.timer.frame) (.coordinatorChanged c) := fun c => by
    rw [State.raiseToJoined_told, State.timingFirst_stamp]
    congr 1
    exact (State.joined_congr (s := s.timingFirst) rfl).trans s.timingFirst_joined
  refine ⟨fun hfree => hclaim ?_, fun h hh hne => hclaim ?_, fun hmine => hclaim ?_, fun hmine => hresign ?_,
    fun hnot => hresign ?_⟩
  · unfold serveClaimCoordinator
    rw [State.timingFirst_registry, hfree, ← htold]
    rfl
  · unfold serveClaimCoordinator
    rw [State.timingFirst_registry, hh]
    exact if_neg hne
  · unfold serveClaimCoordinator
    rw [State.timingFirst_registry, hmine]
    exact if_pos rfl
  · unfold serveResign
    rw [if_pos ((s.timingFirst.holdsRole_iff p).mpr (by rw [State.timingFirst_registry, hmine])), ← htold]
    rfl
  · unfold serveResign
    rw [if_neg fun h => hnot (by rw [← State.timingFirst_registry]; exact (s.timingFirst.holdsRole_iff p).mp h)]
    rfl

/-- Settles O21. -/
theorem setLeaseAndSetLane : Obligations.SetLeaseAndSetLane := by
  refine ⟨fun s p x hsel hin hrole => ?_, fun s p x y hsel hin hrole => ?_⟩
  · have hserved : ∀ {t reply}, serveSetLease p [x] s.timingFirst = (t, reply) →
        exec (.setLease p (requestFrame 0x0C [x])) s = .next (t.replied p 0x0C [x] reply) := fun hserve =>
      exec_registry (r := .setLease) hsel rfl nofun rfl (State.passes_of_joined hin nofun fun _ => hrole) hserve
    refine ⟨fun hx => hserved ((if_pos hx).trans ?_), fun hx => hserved (if_neg (not_le.mpr hx))⟩
    rw [State.timingFirst_registry]
    rfl
  · have hserved : ∀ {t reply}, serveSetLane p [x, y] s.closeLane = (t, reply) →
        exec (.setLane p (requestFrame 0x0B [x, y])) s = .next (t.replied p 0x0B [x, y] reply) := fun hserve =>
      exec_block (r := .setLane) hsel rfl nofun nofun rfl (State.passes_of_joined hin nofun fun _ => hrole) hserve
    exact ⟨fun hfits => hserved (if_pos hfits), fun hunfit => hserved (if_neg hunfit)⟩

/-! ## READ STATUS (R37) -/

theorem State.passes_from_everywhere {s : State} {p : Station} {r : Request} (hr : r ≠ .join)
    (hout : Request.fromOutside r = true) (hleaving : Request.fromLeaving r = true)
    (hfree : Request.coordinatorOnly r = false) : s.registryRefusal p r = none := by
  unfold State.registryRefusal requesterRefusal
  cases (s.station p).state <;> simp [hr, hout, hleaving, hfree]

/-- Settles O22: the results item by item, of the state once every work due is taken. -/
theorem readStatusReportsOneMoment : Obligations.ReadStatusReportsOneMoment := by
  intro s p hsel
  refine exec_block (r := .readStatus) hsel rfl nofun nofun rfl (State.passes_from_everywhere nofun rfl rfl rfl) ?_
  show serveReadStatus p [] s.closeLane = _
  unfold serveReadStatus
  generalize s.closeLane.settle = u
  refine congrArg (fun l => (u, ok l)) ?_
  simp only [State.statusResults, stations, List.map_cons, List.map_nil, List.flatMap_cons, List.flatMap_nil,
    List.append_assoc, List.append_nil]
  rfl

/-! ## Departures as commands (R26 to R31) -/

theorem State.membershipLaw_sources {s : State} (h : s.membershipLaw) : ∀ k c, ∀ m ∈ s.lane.queue k c, m.source = k := h.2

/-- The code of a member's state. -/
theorem StationState.code_of_present {s : State} {n : Station} (h : s.present n = true) :
    (s.station n).state.code = if s.joined n then 1 else 2 := by
  have hstate : (s.station n).state = .joined ∨ (s.station n).state = .leaving := by simpa [State.present] using h
  unfold State.joined
  rcases hstate with hstate | hstate <;> rw [hstate] <;> rfl

@[simp] theorem State.closeLane_station (s : State) (n : Station) : s.closeLane.station n = s.station n := by
  simp only [State.station, State.closeLane_registry]

/-- A work due other than the lane's, taken. -/
theorem State.takeWork_due {s : State} {w : Work} (hdue : w ∈ s.due) (hlane : w ≠ .lane) :
    s.takeWork w = (s.closeLane.dropWork w).doWork w := by rw [State.takeWork, if_pos hdue, if_neg hlane]

/-- The last frame of a lease (R27). -/
theorem State.leaseCountdown_lapse {s : State} {n : Station} (hin : (s.station n).state = .joined)
    (hone : (s.station n).leaseCounter = 1) : s.leaseCountdown n = s.depart n .lapsed .leaseExpired s.stamp := by
  unfold State.leaseCountdown
  simp only
  rw [if_pos hin, if_pos (by rw [hone])]

/-- Settles O17: the three causes of an abrupt departure, each by `State.depart_eq`. -/
theorem abruptDepartureIsOneEvent : Obligations.AbruptDepartureIsOneEvent := by
  refine ⟨fun s p hsel hin hlaw => ?_, fun s p n hsel hin hrole hne hpresent hlaw => ?_, fun s n hdue hin hone hlaw => ?_⟩
  · refine exec_registry (r := .detach) hsel rfl nofun rfl (State.passes_of_present hin rfl) ?_
    show serveDetach p [] s.timingFirst = _
    rw [serveDetach, State.depart_eq _ _ _ _ _ (.inl rfl) (State.membershipLaw_sources hlaw), State.timingFirst_stamp,
      State.timingFirst_station, StationState.code_of_present hin]
    rfl
  · refine exec_registry (r := .evict) hsel rfl nofun rfl (State.passes_of_joined hin nofun fun _ => hrole) ?_
    show serveEvict p [stationByte n] s.timingFirst = _
    have hother : Station.ofNumber (operand [stationByte n] 0).toNat = some n := by
      rw [show operand [stationByte n] 0 = stationByte n from rfl, stationByte_toNat, Station.ofNumber_number]
    unfold serveEvict
    rw [hother]
    simp only
    rw [if_neg hne, if_pos (by rw [State.timingFirst_present]; exact hpresent),
      State.depart_eq _ _ _ _ _ (.inr rfl) (State.membershipLaw_sources hlaw), State.timingFirst_stamp,
      State.timingFirst_station, StationState.code_of_present hpresent]
    rfl
  · have hexpires : s.leaseExpires n = true := by
      simp only [State.leaseExpires, Bool.and_eq_true, List.contains_iff_mem, decide_eq_true_eq]
      exact ⟨⟨hdue, hin⟩, hone.le⟩
    have hstate : (s.station n).state = .joined := by simpa [State.joined] using hin
    refine congrArg Host.Outcome.next ((if_pos hexpires).trans ?_)
    rw [State.takeWork_due hdue nofun]
    refine (State.leaseCountdown_lapse (s := s.closeLane.dropWork (.lease n)) ?_ ?_).trans ?_
    · exact (congrArg StationRec.state (s.closeLane_station n)).trans hstate
    · exact (congrArg StationRec.leaseCounter (s.closeLane_station n)).trans hone
    · rw [State.depart_eq (s.closeLane.dropWork _) _ _ _ _ (.inr rfl) (State.membershipLaw_sources hlaw), State.stamp,
        show (s.closeLane.dropWork (.lease n)).timer = s.timer from s.closeLane_timer]
      rfl

theorem State.leavesBeforeEpoch_iff (s : State) : s.leavesBeforeEpoch = true ↔ ∀ w ∈ [Work.lease .s1, .lease .s2, .lease .s3,
    .lease .s4, .commit, .leaving .s1, .leaving .s2, .leaving .s3, .leaving .s4], w ∈ s.due := by
  unfold State.leavesBeforeEpoch
  rw [List.all_eq_true]
  simp only [List.contains_iff_mem]

/-- Settles O18: LEAVE by `State.leave_eq`, before or after the examination of the boundary. -/
theorem leaveBeginsLeaving : Obligations.LeaveBeginsLeaving := by
  intro s p hsel hin hlaw
  refine exec_registry (r := .leave) hsel rfl nofun rfl (State.passes_of_joined hin nofun nofun) ?_
  show serveLeave p [] s.timingFirst = _
  have hpassed : ∀ u : State, u.passExamination p = if ∀ w ∈ [Work.lease .s1, .lease .s2, .lease .s3, .lease .s4, .commit,
      .leaving .s1, .leaving .s2, .leaving .s3, .leaving .s4], w ∈ u.due then u else u.setDue (u.due.erase (.leaving p)) :=
    fun u => if_congr u.leavesBeforeEpoch_iff rfl rfl
  have hsources : ∀ k c, ∀ m ∈ (s.timingFirst.passExamination p).lane.queue k c, m.source = k := by
    unfold State.passExamination
    split <;> exact State.membershipLaw_sources hlaw
  rw [serveLeave, State.leave_eq _ _ _ hsources, State.timingFirst_stamp, hpassed]
  rfl

/-- Settles O19: the examination by `State.endLeaving_eq`. -/
theorem endOfLeavingTakesTheStationOut : Obligations.EndOfLeavingTakesTheStationOut := by
  intro s n hdue hleaving hlaw
  have hends : s.leavingEnds n = !s.closeLane.lane.inFlightAt n := by simp [State.leavingEnds, hdue, hleaving]
  refine ⟨fun hquiet => congrArg Host.Outcome.next ?_, fun hflying => congrArg Host.Outcome.next ?_⟩
  · refine (if_pos (by rw [hends, hquiet]; rfl)).trans ?_
    rw [State.takeWork_due hdue nofun]
    have hstate : ((s.closeLane.dropWork (.leaving n)).station n).state = .leaving :=
      (congrArg StationRec.state (s.closeLane_station n)).trans hleaving
    refine (if_pos ⟨hstate, hquiet⟩).trans ?_
    have hmembers := s.closeLane.membershipLaw_iff.mp hlaw
    have hout : s.closeLane.joined n = false := by simp [State.joined, hleaving]
    rw [State.endLeaving_eq (s.closeLane.dropWork _) _ _ (hmembers.queues n hout) hmembers.sources, State.stamp,
      show (s.closeLane.dropWork (.leaving n)).timer = s.timer from s.closeLane_timer]
    rfl
  · exact if_neg (by rw [hends, hflying]; nofun)

end Sys2Proof.Machine
end

section
/-! SUPPORT. The requests of the slot exchange and of the event block: READ SLOT, DRAIN RING, SET WATERMARK, TAKE EVENT,
SET MASK. -/

namespace Sys2Proof.Machine

/-! ## Flag bytes and bytes (R169) -/

theorem roleFlags_eq (due orphaned : Bool) :
    roleFlags due orphaned = (if due then 1 else 0) + (if orphaned then 2 else 0) := by
  cases due <;> cases orphaned <;> rfl

theorem slotFlags_eq (v : Option Word) (fresh : Bool) :
    slotFlags v fresh = (if v.isSome then 1 else 0) + (if fresh then 2 else 0) := by
  unfold slotFlags
  cases v.isSome <;> cases fresh <;> rfl

@[simp] theorem byte_of_toNat (x : Byte) : byte x.toNat = x := by simp [byte]

/-! ## READ SLOT (R89, R90) -/

theorem SlotEntry.indicator_eq (e : SlotEntry) : e.indicator =
    (match e.producer with | none => (0 : Byte) | some q => if q.orphaned then 2 else 1) := by
  unfold SlotEntry.indicator Producer.live
  cases e.producer with
  | none => rfl
  | some q => cases h : q.orphaned <;> simp [h]

/-- Settles O31. -/
theorem readSlotAnswersRoleHoldersOnly : Obligations.ReadSlotAnswersRoleHoldersOnly := by
  intro s p x hsel hin
  have hserved : ∀ {t reply}, serveReadSlot p [x] s.closeLane = (t, reply) →
      exec (.readSlot p (requestFrame 0x21 [x])) s = .next (t.replied p 0x21 [x] reply) := fun hserve =>
    exec_block (r := .readSlot) hsel rfl nofun nofun rfl (State.passes_of_present hin rfl) hserve
  have hrole : ((s.closeLane.entry x.toNat).liveProducer p || (s.closeLane.entry x.toNat).liveConsumer p) = true ↔
      (s.closeLane.entry x.toNat).liveProducer p = true ∨ (s.closeLane.entry x.toNat).liveConsumer p = true := by
    rw [Bool.or_eq_true]
  refine ⟨fun hx hallowed => hserved ((if_pos hx).trans ((if_pos (hrole.mpr hallowed)).trans ?_)),
    fun hx hnot => hserved ((if_pos hx).trans (if_neg (mt hrole.mp hnot))), fun hx => hserved (if_neg (not_lt.mpr hx))⟩
  rw [slotFlags_eq, SlotEntry.indicator_eq, show operand [x] 0 = x from rfl, byte_of_toNat]
  cases (s.closeLane.slot x.toNat).delivered <;> rfl

/-! ## DRAIN RING and SET WATERMARK (R99, R100) -/

theorem ringBytes_eq (e : RingEntry) : ringBytes e = [byte e.slot] ++ bytes16 e.stamp ++
    [((if e.value.isSome then 1 else 0) + (if e.fresh then 2 else 0) : Byte)] ++
    bytes16 (match e.value with | none => 0 | some w => w) ++ [byte e.gap] := by
  rw [ringBytes, slotFlags_eq]
  cases e.value <;> rfl

/-- Settles O34. -/
theorem drainRingAndSetWatermark : Obligations.DrainRingAndSetWatermark := by
  intro s p x hsel
  have hdrain : s.present p = true → ∀ {t reply}, serveDrainRing p [x] s.closeLane = (t, reply) →
      exec (.drainRing p (requestFrame 0x22 [x])) s = .next (t.replied p 0x22 [x] reply) := fun hin _ _ hserve =>
    exec_block (r := .drainRing) hsel rfl nofun nofun rfl (State.passes_of_present hin rfl) hserve
  have hmark : s.joined p = true → ∀ {t reply}, serveSetWatermark p [x] s.closeLane = (t, reply) →
      exec (.setWatermark p (requestFrame 0x23 [x])) s = .next (t.replied p 0x23 [x] reply) := fun hin _ _ hserve =>
    exec_block (r := .setWatermark) hsel rfl nofun nofun rfl (State.passes_of_joined hin nofun nofun) hserve
  have hbad : ∀ {top : Nat}, x.toNat = 0 ∨ top < x.toNat → ¬ (1 ≤ x.toNat ∧ x.toNat ≤ top) := by omega
  refine ⟨fun hin h1 h8 hsome => hdrain hin ((if_pos ⟨h1, h8⟩).trans ((if_neg hsome).trans ?_)),
    fun hin h1 h8 hnone => hdrain hin ((if_pos ⟨h1, h8⟩).trans (if_pos hnone)),
    fun hin hx => hdrain hin (if_neg (hbad hx)),
    fun hin h1 h63 => hmark hin (if_pos ⟨h1, h63⟩), fun hin hx => hmark hin (if_neg (hbad hx))⟩
  simp only [List.length_take, List.length_drop, funext ringBytes_eq]
  rfl

/-! ## TAKE EVENT (R154, R171, R172) -/

theorem Event.kind_onLink (e : Event) : e.kind = e.onLink.1 := by cases e <;> rfl

theorem bytes16_ofNat (k : Nat) : bytes16 (BitVec.ofNat 16 k) = [byte (k / 256), byte k] := by
  have hhigh : ((BitVec.ofNat 16 k) >>> 8).setWidth 8 = byte (k / 256) := by
    apply BitVec.eq_of_toNat_eq
    simp only [byte, BitVec.toNat_setWidth, BitVec.toNat_ushiftRight, BitVec.toNat_ofNat, Nat.shiftRight_eq_div_pow]
    omega
  have hlow : (BitVec.ofNat 16 k).setWidth 8 = byte k := by
    apply BitVec.eq_of_toNat_eq
    simp only [byte, BitVec.toNat_setWidth, BitVec.toNat_ofNat]
    omega
  rw [bytes16, hhigh, hlow]

theorem Event.details_onLink (e : Event) : e.details = e.onLink.2 := by
  cases e with
  | changeDone id kind slot result => cases kind <;> cases result <;> rfl
  | messageArrived source cls tag => cases cls <;> rfl
  | undeliverable tag seq reason => cases reason <;> rfl
  | unacked seq tag reason => cases reason <;> rfl
  | stationChanged station state cause => cases state <;> cases cause <;> rfl
  | coordinatorChanged holder => cases holder <;> rfl
  | timing period mode ref =>
    show bytes16 (BitVec.ofNat 16 period) ++ _ = _
    rw [bytes16_ofNat]
    cases mode <;> cases ref <;> rfl
  | slotLost slot => rfl
  | slotVacated slot => rfl
  | producerGone slot departed => rfl
  | ringLevel count => rfl
  | ringDropping => rfl
  | sent tag seq => rfl
  | acked seq tag => rfl
  | leaseLow left => rfl

/-- Settles O46: the queue is empty, holds the lost-events record alone, or has a first record. -/
theorem takeEventRemovesTheHead : Obligations.TakeEventRemovesTheHead := by
  intro s p hsel hin
  have hserved : ∀ {t reply}, serveTakeEvent p [] s.closeLane = (t, reply) →
      exec (.takeEvent p (requestFrame 0x38 [])) s = .next (t.replied p 0x38 [] reply) := fun hserve =>
    exec_block (r := .takeEvent) hsel rfl nofun nofun rfl (State.passes_of_present hin rfl) hserve
  refine ⟨fun r rest hq => hserved ?_, fun x hq hx => hserved ?_, fun hq hx => hserved ?_, fun e => ?_⟩
  · unfold serveTakeEvent
    simp only [hq]
    rw [EventRecord.bytes, Event.kind_onLink, Event.details_onLink, EventQueue.count]
    cases (s.closeLane.events.get p).lost <;> rfl
  · unfold serveTakeEvent
    simp only [hq, hx]
    rfl
  · unfold serveTakeEvent
    simp only [hq, hx]
  · exact ⟨e.kind_onLink, e.details_onLink, by cases e <;> rfl⟩

/-! ## SET MASK (R155, R156) -/

theorem word16_bit15 (hi lo : Byte) : (word16 hi lo).getLsbD 15 = hi.getLsbD 7 := by
  simp [word16]

theorem Event.kind_lt (e : Event) : e.kind - 1 < 15 := by cases e <;> simp [Event.kind]

/-- The attention line of the station whose mask has just been written. -/
theorem State.attention_setMask (u : State) (p : Station) (mask : BitVec 16) (code : Byte) (ops : List Byte) (reply : Reply) :
    ((u.setQueue p { u.events.get p with mask := mask.setWidth 15 }).replied p code ops reply).attention p = true ↔
      (u.events.get p).lost ≠ none ∨ ∃ r ∈ (u.events.get p).records, mask.getLsbD (r.event.onLink.1 - 1) = false := by
  have hmasked : ∀ r : EventRecord, (EventQueue.masked { u.events.get p with mask := mask.setWidth 15 } r) =
      mask.getLsbD (r.event.onLink.1 - 1) := fun r => by
    rw [EventQueue.masked, ← Event.kind_onLink, BitVec.getLsbD_setWidth]
    simp [r.event.kind_lt]
  have hqueue : ((u.setQueue p { u.events.get p with mask := mask.setWidth 15 }).replied p code ops reply).events.get p =
      { u.events.get p with mask := mask.setWidth 15 } := PerStation.get_set_same _ _ _
  rw [State.attention, hqueue]
  simp [hmasked, Option.isSome_iff_ne_none]

/-- Settles O47. -/
theorem setMaskGovernsAttention : Obligations.SetMaskGovernsAttention := by
  intro s p hi lo hsel hin
  have hserved : ∀ {t reply}, serveSetMask p [hi, lo] s.closeLane = (t, reply) →
      exec (.setMask p (requestFrame 0x39 [hi, lo])) s = .next (t.replied p 0x39 [hi, lo] reply) := fun hserve =>
    exec_block (r := .setMask) hsel rfl nofun nofun rfl (State.passes_of_joined hin nofun nofun) hserve
  have hbit : (operand16 [hi, lo] 0).getLsbD 15 = hi.getLsbD 7 := word16_bit15 hi lo
  refine ⟨fun hclear => ⟨_, hserved (if_neg (by rw [hbit, hclear]; nofun)), rfl,
      s.closeLane.attention_setMask p _ _ _ _⟩, fun hset => hserved (if_pos (by rw [hbit, hset]))⟩

end Sys2Proof.Machine
end

section
/-! SUPPORT. What lane work begun and finished touches (R120). -/

namespace Sys2Proof.Machine

/-- t agrees with s in every block but the lane, the acknowledgement table and the event queues, in the receive queues, and
in the works due. -/
structure State.SameBesideLane (s t : State) : Prop where
  timer    : t.timer = s.timer
  registry : t.registry = s.registry
  slotMap  : t.slotMap = s.slotMap
  changes  : t.changes = s.changes
  slots    : t.slots = s.slots
  rings    : t.rings = s.rings
  receive  : t.lane.rx = s.lane.rx
  ports    : t.ports = s.ports
  timings  : t.timings = s.timings
  pending  : t.pending = s.pending
  works    : t.due = s.due

namespace State.SameBesideLane

theorem refl (s : State) : s.SameBesideLane s := ⟨rfl, rfl, rfl, rfl, rfl, rfl, rfl, rfl, rfl, rfl, rfl⟩

theorem trans {s t u : State} (h : s.SameBesideLane t) (k : t.SameBesideLane u) : s.SameBesideLane u where
  timer := k.timer.trans h.timer
  registry := k.registry.trans h.registry
  slotMap := k.slotMap.trans h.slotMap
  changes := k.changes.trans h.changes
  slots := k.slots.trans h.slots
  rings := k.rings.trans h.rings
  receive := k.receive.trans h.receive
  ports := k.ports.trans h.ports
  timings := k.timings.trans h.timings
  pending := k.pending.trans h.pending
  works := k.works.trans h.works

theorem foldl {β : Type} {f : State → β → State} (h : ∀ t x, State.SameBesideLane t (f t x)) (l : List β) (s : State) :
    s.SameBesideLane (l.foldl f s) := by
  induction l generalizing s with
  | nil => exact refl s
  | cons x l ih => exact (h s x).trans (ih (f s x))

end State.SameBesideLane

theorem State.raise_sameBesideLane (s : State) (n : Station) (st : Stamp) (e : Event) :
    s.SameBesideLane (s.raise n st e) := by
  rw [State.raise_eq]
  exact ⟨rfl, rfl, rfl, rfl, rfl, rfl, rfl, rfl, rfl, rfl, rfl⟩

theorem State.setAckList_sameBesideLane (s : State) (n : Station) (l : List AckEntry) :
    s.SameBesideLane (s.setAckList n l) := ⟨rfl, rfl, rfl, rfl, rfl, rfl, rfl, rfl, rfl, rfl, rfl⟩

theorem State.setLane_sameBesideLane (s : State) {l : Lane} (h : l.rx = s.lane.rx) : s.SameBesideLane (s.setLane l) :=
  ⟨rfl, rfl, rfl, rfl, rfl, rfl, h, rfl, rfl, rfl, rfl⟩

theorem State.ackGone_sameBesideLane (s : State) (m : Message) : s.SameBesideLane (s.ackGone m) := by
  rw [State.ackGone_eq]
  exact s.setAckList_sameBesideLane _ _

theorem State.ackGranted_sameBesideLane (s : State) (m : Message) : s.SameBesideLane (s.ackGranted m) := by
  unfold State.ackGranted
  split
  · exact s.setAckList_sameBesideLane _ _
  · exact .refl s

theorem State.undeliverable_sameBesideLane (s : State) (st : Stamp) (r : Reason) (m : Message) :
    s.SameBesideLane (s.undeliverable st r m) := (s.raise_sameBesideLane _ _ _).trans (State.ackGone_sameBesideLane _ _)

theorem State.grant_sameBesideLane (s : State) (n : Station) (c : MsgClass) : s.SameBesideLane (s.grant n c) := by
  unfold State.grant
  split
  · exact .refl s
  · next m rest _ =>
    refine .trans (s.setLane_sameBesideLane ?_) (State.ackGranted_sameBesideLane _ m)
    exact Lane.setTxQueue_rx s.lane n c rest

theorem State.laneArbitrate_sameBesideLane (s : State) : s.SameBesideLane s.laneArbitrate := by
  unfold State.laneArbitrate
  cases s.winner with
  | none => exact s.setLane_sameBesideLane rfl
  | some x => exact .trans (s.grant_sameBesideLane x.1 x.2) (State.setLane_sameBesideLane _ rfl)

theorem State.raiseHold_sameBesideLane (s : State) (x : Station × MsgClass) : s.SameBesideLane (s.raiseHold x) := by
  unfold State.raiseHold
  split
  · exact .refl s
  · simp only
    split
    · exact .trans (s.setLane_sameBesideLane (Lane.setTxQueue_rx _ _ _ _)) (State.undeliverable_sameBesideLane _ _ _ _)
    · exact s.setLane_sameBesideLane (Lane.setTxQueue_rx _ _ _ _)

/-! ## The stages of the lane's work -/

theorem State.laneToArbitration_begun {s : State} (h : s.lane.phase ≠ .transferStep) : s.laneToArbitration = s := by
  unfold State.laneToArbitration
  split
  · next hphase => exact absurd hphase h
  · rfl

theorem State.laneToArbitration_start {s : State} (h : s.lane.phase = .transferStep) :
    s.laneToArbitration = s.laneTransferStep := by rw [State.laneToArbitration, h]

theorem State.laneArbitrate_phase (s : State) : s.laneArbitrate.lane.phase = .holdCount s.blockedHeads := rfl

theorem State.laneHoldCount_phase (s : State) (b : List (Station × MsgClass)) :
    (s.laneHoldCount b).lane.phase = .transferStep := rfl

theorem State.laneToHold_of_arbitration {s : State} (h : s.laneToArbitration.lane.phase = .arbitration) :
    s.laneToHold = s.laneToArbitration.laneArbitrate := by
  unfold State.laneToHold
  simp only [h]

theorem State.laneToHold_of_other {s : State} (h : s.laneToArbitration.lane.phase ≠ .arbitration) :
    s.laneToHold = s.laneToArbitration := by
  unfold State.laneToHold
  simp only

theorem State.laneFinish_of_holdCount {s : State} {b : List (Station × MsgClass)} (h : s.laneToHold.lane.phase = .holdCount b) :
    s.laneFinish = s.laneToHold.laneHoldCount b := by
  unfold State.laneFinish
  simp only [h]

theorem State.closeLane_begun {s : State} (h : s.lane.phase ≠ .transferStep) : s.closeLane = s.laneFinish := by
  unfold State.closeLane
  split
  · next hphase => exact absurd hphase h
  · rfl

/-- Lane work past its transfer step ends with the hold count. -/
theorem State.laneToHold_begun {s : State} (h : s.lane.phase ≠ .transferStep) :
    s.SameBesideLane s.laneToHold ∧ ∃ b, s.laneToHold.lane.phase = .holdCount b := by
  cases hphase : s.lane.phase with
  | transferStep => exact absurd hphase h
  | arbitration =>
    rw [State.laneToHold_of_arbitration (by rw [State.laneToArbitration_begun h, hphase]), State.laneToArbitration_begun h]
    exact ⟨s.laneArbitrate_sameBesideLane, _, s.laneArbitrate_phase⟩
  | holdCount b =>
    rw [State.laneToHold_of_other (by rw [State.laneToArbitration_begun h, hphase]; nofun), State.laneToArbitration_begun h]
    exact ⟨.refl s, b, hphase⟩

/-- The state before the lane's work ends, for lane work past its transfer step. -/
theorem State.closeLane_done {s : State} (h : s.lane.phase ≠ .transferStep) :
    ∃ t : State, s.SameBesideLane t ∧ s.closeLane = t.laneDone := by
  obtain ⟨hsame, b, hb⟩ := State.laneToHold_begun h
  refine ⟨b.foldl (fun t x => t.raiseHold x) s.laneToHold, hsame.trans (.foldl State.raiseHold_sameBesideLane _ _), ?_⟩
  rw [State.closeLane_begun h, State.laneFinish_of_holdCount hb]
  rfl

theorem State.closeLane_phase (s : State) : s.closeLane.lane.phase = .transferStep := by
  by_cases h : s.lane.phase = .transferStep
  · rw [s.closeLane_quiet h, h]
  · obtain ⟨t, _, ht⟩ := State.closeLane_done h
    rw [ht]
    rfl

@[simp] theorem State.closeLane_closeLane (s : State) : s.closeLane.closeLane = s.closeLane :=
  State.closeLane_quiet _ s.closeLane_phase

theorem State.closeLane_due {s : State} (h : s.lane.phase ≠ .transferStep) : s.closeLane.due = s.due.erase .lane := by
  obtain ⟨t, hsame, ht⟩ := State.closeLane_done h
  rw [ht, ← hsame.works]
  rfl

/-- Works other than the lane's stay due when lane work begun is finished. -/
theorem State.mem_closeLane_due (s : State) {w : Work} (hw : w ≠ .lane) : w ∈ s.closeLane.due ↔ w ∈ s.due := by
  by_cases h : s.lane.phase = .transferStep
  · rw [s.closeLane_quiet h]
  · rw [State.closeLane_due h, List.mem_erase_of_ne hw]

/-- Lane work begun and finished leaves all but the lane, the acknowledgement table, the event queues and the works due
alone, and the receive queues too. -/
theorem State.closeLane_sameBesideLane (s : State) : s.SameBesideLane (s.closeLane.setDue s.due) := by
  by_cases h : s.lane.phase = .transferStep
  · rw [s.closeLane_quiet h]
    exact .refl s
  · obtain ⟨t, hsame, ht⟩ := State.closeLane_done h
    rw [ht]
    exact ⟨hsame.timer, hsame.registry, hsame.slotMap, hsame.changes, hsame.slots, hsame.rings, hsame.receive, hsame.ports,
      hsame.timings, hsame.pending, rfl⟩

@[simp] theorem State.closeLane_slotMap (s : State) : s.closeLane.slotMap = s.slotMap := s.closeLane_sameBesideLane.slotMap

@[simp] theorem State.closeLane_changes (s : State) : s.closeLane.changes = s.changes := s.closeLane_sameBesideLane.changes

/-- An edge in FOLLOW finds lane work begun finished. -/
theorem State.edge_closeLane (s : State) (h : s.timer.mode = .follow) : s.closeLane.edge = s.edge := by
  unfold State.edge
  rw [s.closeLane_timer, h, s.closeLane_closeLane]

/-- Settles O40. -/
theorem finishingLaneWorkTouchesLaneAcksAndEventsAlone : Obligations.FinishingLaneWorkTouchesLaneAcksAndEventsAlone := by
  intro s
  have hsame := s.closeLane_sameBesideLane
  exact ⟨s.closeLane_quiet, fun h => ⟨s.closeLane_phase, State.closeLane_due h⟩, hsame.timer, hsame.registry, hsame.slotMap,
    hsame.changes, hsame.slots, hsame.rings, hsame.receive, hsame.ports, hsame.timings, hsame.pending, fun hfollow order =>
    congrArg (fun t : State => Host.Outcome.next (t.takeWorks order)) (s.edge_closeLane hfollow).symm⟩

end Sys2Proof.Machine
end

section
/-! SUPPORT. The requests that stage a change (R57 to R63): their common checks, their own checks against the projected map,
and the rules of R48 and R70 to R74 written out. -/

namespace Sys2Proof.Machine

/-! ## The rules written out (R48, R70 to R74) -/

theorem SlotEntry.removeDue_eq_cleared (e : SlotEntry) : e.removeDue = e.cleared := by
  have hconsumers : (fun c : Consumer => !c.releaseDue) = fun c => decide (c.releaseDue = false) := by
    funext c; cases c.releaseDue <;> rfl
  unfold SlotEntry.removeDue SlotEntry.cleared SlotEntry.producerDue
  rw [hconsumers]
  cases e.producer with
  | none => rfl
  | some p => obtain ⟨n, due, orphaned⟩ := p; cases due <;> rfl

theorem SlotEntry.producedBy_eq_any (e : SlotEntry) (n : Station) :
    e.producedBy n = e.producer.any (fun p => decide (p.station = n)) := by
  unfold SlotEntry.producedBy
  cases e.producer with
  | none => rfl
  | some p => rfl

theorem SlotEntry.consumedBy_eq_any (e : SlotEntry) (n : Station) :
    e.consumedBy n = e.consumers.any (fun r => decide (r.station = n)) := rfl

theorem SlotEntry.producer_isSome (e : SlotEntry) : e.producer.isSome = true ↔ e.producer ≠ none :=
  Option.isSome_iff_ne_none

/-- A result with the entry that goes with it. -/
theorem outcome_ite {c : Prop} [Decidable c] {a b : ChangeResult × SlotEntry} {r q : ChangeResult} {e f : SlotEntry}
    (ha : c → a = (r, if r = .ok then f else e)) (hb : ¬ c → b = (q, if q = .ok then f else e)) :
    (if c then a else b) = (if c then r else q, if (if c then r else q) = .ok then f else e) := by
  split
  · next h => exact ha h
  · next h => exact hb h

/-- The result and the entry of a change as its rule gives them (R69). -/
theorem Change.outcome_eq (c : Change) (m : List SlotEntry) :
    c.outcome m = (c.check m, if c.check m = .ok then c.applied (mapEntry m c.slot) else mapEntry m c.slot) := by
  obtain ⟨id, origin, kind, slot, stamp⟩ := c
  have hentry : m.getD slot { producer := none, consumers := [] } = mapEntry m slot := rfl
  unfold Change.outcome Change.check
  simp only [hentry, ← SlotEntry.producedBy_eq_any, ← SlotEntry.consumedBy_eq_any, SlotEntry.producer_isSome]
  cases kind with
  | claim =>
    cases origin with
    | none => rfl
    | some o => exact outcome_ite (fun _ => rfl) fun _ => outcome_ite (fun _ => rfl) fun _ => outcome_ite (fun _ => rfl) fun _ => rfl
  | release =>
    cases origin with
    | none => rfl
    | some o => exact outcome_ite (fun _ => rfl) fun _ => rfl
  | forceRelease => exact outcome_ite (fun _ => rfl) fun _ => rfl
  | subscribe mode =>
    cases origin with
    | none => rfl
    | some o =>
      refine outcome_ite (fun _ => rfl) fun _ => outcome_ite (fun hmine => ?_) fun hnew =>
        outcome_ite (fun _ => ?_) fun _ => rfl
      · simp only [Change.applied, hmine, if_true]
        refine congrArg (fun l => (ChangeResult.ok, SlotEntry.mk _ l)) (List.map_congr_left fun r _ => ?_)
        split
        · next hr => rw [hr]
        · rfl
      · simp only [Change.applied, hnew]
        rfl
  | unsubscribe =>
    cases origin with
    | none => rfl
    | some o => exact outcome_ite (fun _ => rfl) fun _ => rfl

theorem Change.outcome_fst (c : Change) (m : List SlotEntry) : (c.outcome m).1 = c.check m := by rw [Change.outcome_eq]

theorem Change.onMap_eq_outcome (c : Change) (m : List SlotEntry) :
    c.onMap m = if (c.outcome m).1 = .ok then m.set c.slot (c.outcome m).2 else m := by
  rw [Change.outcome_eq, Change.onMap]
  split
  · next h => simp only
  · rfl

/-- The projection of the first entries of the list is the map after them (R56). -/
theorem State.mapAfter_eq (s : State) (i : Nat) :
    s.mapAfter i = projectFrom (s.slotMap.map SlotEntry.removeDue) (s.changes.take i) := by
  have hcleared : SlotEntry.removeDue = SlotEntry.cleared := funext SlotEntry.removeDue_eq_cleared
  have hstep : (fun (m : List SlotEntry) (c : Change) => c.onMap m) =
      fun m c => if (c.outcome m).1 = .ok then m.set c.slot (c.outcome m).2 else m :=
    funext fun m => funext fun c => c.onMap_eq_outcome m
  rw [State.mapAfter, projectFrom, hcleared, hstep]

theorem State.projected_eq_mapAfter (s : State) : s.projected = s.mapAfter s.changes.length := by
  rw [State.mapAfter_eq, List.take_length, State.projected]

/-! ## The common checks (R57) -/

theorem State.stageRequest_full {s : State} (h : 24 ≤ s.changes.length) (o : Option Station) (k : ChangeKind) (j : Nat)
    (own : Option Status) : s.stageRequest o k j own = (s, refuse .listFull) := by
  have hfull : s.stagingRefusal o = some .listFull := if_pos h
  unfold State.stageRequest
  rw [hfull]

theorem State.stageRequest_quota {s : State} {n : Station} (h : s.changes.length < 24) (hquota : 8 ≤ quotaCount s.changes n)
    (k : ChangeKind) (j : Nat) (own : Option Status) : s.stageRequest (some n) k j own = (s, refuse .quota) := by
  have hfull : s.stagingRefusal (some n) = some .quota := (if_neg (not_le.mpr h)).trans (if_pos hquota)
  unfold State.stageRequest
  rw [hfull]

/-- Room in the list, and in the origin's quota (R57). -/
def State.hasStagingRoom (s : State) (o : Option Station) : Prop :=
  s.changes.length < 24 ∧ ∀ n ∈ o, quotaCount s.changes n < 8

theorem State.stagingRefusal_room {s : State} {o : Option Station} (h : s.hasStagingRoom o) : s.stagingRefusal o = none := by
  obtain ⟨hlength, hquota⟩ := h
  refine (if_neg (not_le.mpr hlength)).trans ?_
  cases o with
  | none => rfl
  | some n => exact if_neg (not_le.mpr (hquota n rfl))

theorem State.stageRequest_refuse {s : State} {o : Option Station} (h : s.hasStagingRoom o) (k : ChangeKind) (j : Nat)
    (st : Status) : s.stageRequest o k j (some st) = (s, refuse st) := by
  unfold State.stageRequest
  rw [State.stagingRefusal_room h]

theorem State.stageRequest_accept {s : State} {o : Option Station} (h : s.hasStagingRoom o) (k : ChangeKind) (j : Nat) :
    s.stageRequest o k j none = s.accept o k j := by
  unfold State.stageRequest
  rw [State.stagingRefusal_room h]

/-- An entry is appended only when every check has passed, and it is the entry asked for. -/
theorem State.stageRequest_appends {s : State} {o : Option Station} {k : ChangeKind} {j : Nat} {own : Option Status} {c : Change}
    (h : (s.stageRequest o k j own).1.changes = s.changes ++ [c]) : own = none ∧ c.origin = o ∧ c.kind = k ∧ c.slot = j := by
  have hkept : ¬ s.changes = s.changes ++ [c] := by simp
  unfold State.stageRequest at h
  split at h
  · exact absurd h hkept
  · split at h
    · exact absurd h hkept
    · have hc : s.changes ++ [_] = s.changes ++ [c] := h
      rw [← List.singleton_inj.mp (List.append_cancel_left hc)]
      exact ⟨rfl, rfl, rfl, rfl⟩

/-! ## The own checks (R58 to R63) -/

/-- The operands of a staging request are in range (R57). -/
def stagingInRange (r : Request) (ops : List Byte) : Prop :=
  ((operand ops 0).toNat < 48 ∨ (r = .claimSlot ∧ (operand ops 0).toNat = 255)) ∧
    (r = .subscribe → (operand ops 1).toNat ≤ 2)

/-- The five staging requests. -/
def stagingRequests : List Request := [.claimSlot, .releaseSlot, .subscribe, .unsubscribe, .forceRelease]

theorem LogMode.ofCode_some {y : Byte} (h : y.toNat ≤ 2) : ∃ mode, LogMode.ofCode y = some mode := by
  have hy : y = 0 ∨ y = 1 ∨ y = 2 := by
    have : y.toNat = 0 ∨ y.toNat = 1 ∨ y.toNat = 2 := by omega
    exact this.imp BitVec.eq_of_toNat_eq (Or.imp BitVec.eq_of_toNat_eq BitVec.eq_of_toNat_eq)
  rcases hy with rfl | rfl | rfl <;> exact ⟨_, rfl⟩

theorem LogMode.ofCode_none {y : Byte} (h : 2 < y.toNat) : LogMode.ofCode y = Option.none := by
  unfold LogMode.ofCode
  rw [if_neg (by rintro rfl; exact absurd h (by decide)), if_neg (by rintro rfl; exact absurd h (by decide)),
    if_neg (by rintro rfl; exact absurd h (by decide))]

theorem claimRefusal_none {m : List SlotEntry} {n : Station} {k : Nat} (h : claimRefusal m n k = none) :
    (mapEntry m k).producer.isSome = false ∧ (mapEntry m k).consumedBy n = false ∧ producerCount m n < 16 := by
  unfold claimRefusal at h
  simp only at h
  split_ifs at h with hproducer _ hconsumer hlimit
  exact ⟨by simpa using hproducer, by simpa using hconsumer, not_le.mp hlimit⟩

theorem anySlot_free {m : List SlotEntry} {n : Station} {k : Nat} (h : anySlot m n = some k) :
    (mapEntry m k).producer.isSome = false ∧ (mapEntry m k).consumedBy n = false := by
  have hfree := List.find?_some h
  simpa using hfree

theorem subscribeRefusal_none {e : SlotEntry} {n : Station} {mode : LogMode} (h : subscribeRefusal e n mode = none) :
    e.producedBy n = false ∧ (e.consumedBy n = true ∨ e.consumers.length < 3) := by
  unfold subscribeRefusal at h
  split_ifs at h with hproducer hsame hlimit
  refine ⟨by simpa using hproducer, ?_⟩
  by_cases hmine : e.consumedBy n = true
  · exact .inl hmine
  · exact .inr (not_le.mp fun hfull => hlimit (by simp [hmine]; exact hfull))

/-- What a staging request is at its block: an entry with the checks of its kind, which give the result that the projected
map gives it, or BAD_OPERAND. -/
structure State.StagingServed (s : State) (p : Station) (r : Request) (ops : List Byte) : Prop where
  outOfRange : ¬ stagingInRange r ops → serve r p ops s = (s, refuse .badOperand)
  inRange : stagingInRange r ops → ∃ o k j own, serve r p ops s = s.stageRequest o k j own ∧
    (r ≠ .forceRelease → o = some p) ∧
    (own = none → ∀ c : Change, c.origin = o → c.kind = k → c.slot = j → c.check s.projected = .ok)

theorem serveClaimSlot_staging (s : State) (p : Station) (ops : List Byte) : s.StagingServed p .claimSlot ops where
  outOfRange hout := by
    have hbig : ¬ (operand ops 0).toNat < 48 := fun h => hout ⟨.inl h, nofun⟩
    have hany : ¬ (operand ops 0).toNat = 255 := fun h => hout ⟨.inr ⟨rfl, h⟩, nofun⟩
    exact (if_neg hbig).trans (if_neg hany)
  inRange hin := by
    by_cases hk : (operand ops 0).toNat < 48
    · refine ⟨_, _, _, _, if_pos hk, fun _ => rfl, fun hown c ho hkind hslot => ?_⟩
      obtain ⟨hfree, hconsumer, hlimit⟩ := claimRefusal_none hown
      simp only [Change.check, ho, hkind, hslot, hfree, hconsumer]
      exact if_neg (not_le.mpr hlimit)
    · have hany : (operand ops 0).toNat = 255 := (hin.1.resolve_left hk).2
      have hserve : serve .claimSlot p ops s = _ := (if_neg hk).trans (if_pos hany)
      cases hslot : anySlot s.projected p with
      | none =>
        rw [hslot] at hserve
        exact ⟨_, _, _, _, hserve, fun _ => rfl, nofun⟩
      | some j =>
        rw [hslot] at hserve
        refine ⟨_, _, _, _, hserve, fun _ => rfl, fun hown c ho hkind hj => ?_⟩
        obtain ⟨hfree, hconsumer⟩ := anySlot_free hslot
        simp only [Change.check, ho, hkind, hj, hfree, hconsumer]
        refine if_neg (c := Config.producerLimit ≤ producerCount s.projected p) fun hlimit => ?_
        rw [if_pos hlimit] at hown
        cases hown

theorem serveReleaseSlot_staging (s : State) (p : Station) (ops : List Byte) : s.StagingServed p .releaseSlot ops where
  outOfRange hout := if_neg fun h => hout ⟨.inl h, nofun⟩
  inRange hin := by
    refine ⟨_, _, _, _, if_pos (hin.1.resolve_right nofun), fun _ => rfl, fun hown c ho hkind hslot => ?_⟩
    simp only [Change.check, ho, hkind, hslot]
    exact if_pos (by by_contra h; rw [if_neg h] at hown; cases hown)

theorem serveUnsubscribe_staging (s : State) (p : Station) (ops : List Byte) : s.StagingServed p .unsubscribe ops where
  outOfRange hout := if_neg fun h => hout ⟨.inl h, nofun⟩
  inRange hin := by
    refine ⟨_, _, _, _, if_pos (hin.1.resolve_right nofun), fun _ => rfl, fun hown c ho hkind hslot => ?_⟩
    simp only [Change.check, ho, hkind, hslot]
    exact if_pos (by by_contra h; rw [if_neg h] at hown; cases hown)

theorem serveForceRelease_staging (s : State) (p : Station) (ops : List Byte) : s.StagingServed p .forceRelease ops where
  outOfRange hout := if_neg fun h => hout ⟨.inl h, nofun⟩
  inRange hin := by
    refine ⟨_, _, _, _, if_pos (hin.1.resolve_right nofun), fun h => absurd rfl h, fun hown c ho hkind hslot => ?_⟩
    simp only [Change.check, ho, hkind, hslot]
    exact if_pos (by by_contra h; rw [if_neg h] at hown; cases hown)

theorem serveSubscribe_staging (s : State) (p : Station) (ops : List Byte) : s.StagingServed p .subscribe ops where
  outOfRange hout := by
    show serveSubscribe p ops s = _
    unfold serveSubscribe
    by_cases hmode : (operand ops 1).toNat ≤ 2
    · obtain ⟨mode, hm⟩ := LogMode.ofCode_some hmode
      rw [hm]
      exact if_neg fun h => hout ⟨.inl h, fun _ => hmode⟩
    · rw [LogMode.ofCode_none (not_le.mp hmode)]
  inRange hin := by
    obtain ⟨mode, hm⟩ := LogMode.ofCode_some (hin.2 rfl)
    have hserve : serve .subscribe p ops s = s.stageRequest (some p) (.subscribe mode) (operand ops 0).toNat
        (subscribeRefusal (mapEntry s.projected (operand ops 0).toNat) p mode) := by
      show serveSubscribe p ops s = _
      unfold serveSubscribe
      rw [hm]
      exact if_pos (hin.1.resolve_right nofun)
    refine ⟨_, _, _, _, hserve, fun _ => rfl, fun hown c ho hkind hslot => ?_⟩
    obtain ⟨hproducer, hroom⟩ := subscribeRefusal_none hown
    simp only [Change.check, ho, hkind, hslot, hproducer]
    rcases hroom with hmine | hroom
    · simp [hmine]
    · simp [Config.consumerLimit, hroom]

theorem State.staging_served (s : State) (p : Station) {r : Request} (hr : r ∈ stagingRequests) (ops : List Byte) :
    s.StagingServed p r ops := by
  simp only [stagingRequests, List.mem_cons, List.not_mem_nil, or_false] at hr
  rcases hr with rfl | rfl | rfl | rfl | rfl
  · exact serveClaimSlot_staging s p ops
  · exact serveReleaseSlot_staging s p ops
  · exact serveSubscribe_staging s p ops
  · exact serveUnsubscribe_staging s p ops
  · exact serveForceRelease_staging s p ops

end Sys2Proof.Machine
end

section
/-! SUPPORT. The requests that stage a change, as commands. -/

namespace Sys2Proof.Machine

section
variable {s : State} {p : Station} {r : Request} {ops : List Byte}

/-- A staging request from a JOINED station is served once lane work begun is finished. -/
theorem exec_staging (hr : r ∈ stagingRequests) (hsel : s.selected p) (hl : r.lengthOk ops.length = true)
    (hin : s.joined p = true) (hrole : r = .forceRelease → s.registry.coordinator = some p) {t : State} {reply : Reply}
    (hserve : serve r p ops s.closeLane = (t, reply)) :
    exec (r.instr p (requestFrame r.code ops)) s = .next (t.replied p r.code ops reply) := by
  have hcase : r ≠ .join ∧ r ≠ .renew ∧ r ≠ .readIdentity ∧ Request.afterTiming r = false ∧
      (Request.coordinatorOnly r = true → r = .forceRelease) := by
    simp only [stagingRequests, List.mem_cons, List.not_mem_nil, or_false] at hr
    rcases hr with rfl | rfl | rfl | rfl | rfl <;> exact ⟨nofun, nofun, nofun, rfl, by decide⟩
  obtain ⟨hjoin, hrenew, hid, hafter, honly⟩ := hcase
  exact exec_block hsel hl hrenew hid hafter (State.passes_of_joined hin hjoin fun h => hrole (honly h)) hserve

theorem State.refuses_of_served (hr : r ∈ stagingRequests) (hsel : s.selected p) (hl : r.lengthOk ops.length = true)
    (hin : s.joined p = true) (hrole : r = .forceRelease → s.registry.coordinator = some p) {st : Status}
    (hserve : serve r p ops s.closeLane = (s.closeLane, refuse st)) : s.refuses p r ops st :=
  exec_staging hr hsel hl hin hrole hserve

theorem State.stages_of_served (hr : r ∈ stagingRequests) (hsel : s.selected p) (hl : r.lengthOk ops.length = true)
    (hin : s.joined p = true) (hrole : r = .forceRelease → s.registry.coordinator = some p)
    {o : Option Station} {k : ChangeKind} {j : Nat} (hlist : s.closeLane.changes.length < 24)
    (hserve : serve r p ops s.closeLane = s.closeLane.accept o k j) : s.stages p r ops o k j := by
  obtain ⟨hlt, hfresh, hlow⟩ := freeId_spec _ hlist
  exact ⟨_, hlt, hfresh, hlow, exec_staging hr hsel hl hin hrole hserve⟩

end

/-! ## The common checks (R57) -/

/-- Settles O25: every staging request refuses operands out of range and else comes to the checks of list and quota. -/
theorem stagingChecksInOrder : Obligations.StagingChecksInOrder := by
  intro s p r x y hsel hin hr hrole
  have hserved := fun ops => s.closeLane.staging_served p hr ops
  have hl : r.lengthOk (if r = .subscribe then [x, y] else [x]).length = true := by
    simp only [List.mem_cons, List.not_mem_nil, or_false] at hr
    rcases hr with rfl | rfl | rfl | rfl | rfl <;> rfl
  have hrange : (x.toNat < 48 ∨ (r = .claimSlot ∧ x = 0xFF)) ∧ (r = .subscribe → y.toNat ≤ 2) ↔
      stagingInRange r (if r = .subscribe then [x, y] else [x]) := by
    have hff : x = 0xFF ↔ x.toNat = 255 := ⟨by rintro rfl; rfl, fun h => BitVec.eq_of_toNat_eq h⟩
    by_cases hsub : r = .subscribe
    · simp only [stagingInRange, hff, if_pos hsub]; rfl
    · simp only [stagingInRange, hff, hsub, false_implies]; rfl
  simp only [hrange]
  refine ⟨fun hout => State.refuses_of_served hr hsel hl hin hrole ((hserved _).outOfRange hout),
    fun hok hfull => ?_, fun hok hroom hne hquota => ?_⟩
  · obtain ⟨o, k, j, own, hserve, -, -⟩ := (hserved _).inRange hok
    exact State.refuses_of_served hr hsel hl hin hrole (hserve.trans (State.stageRequest_full hfull o k j own))
  · obtain ⟨o, k, j, own, hserve, ho, -⟩ := (hserved _).inRange hok
    rw [ho hne] at hserve
    exact State.refuses_of_served hr hsel hl hin hrole (hserve.trans (State.stageRequest_quota hroom hquota k j own))

/-! ## Acceptance (section 4.3) -/

/-- Settles O26: an entry is appended by a request in range whose own check has passed, and that check gives OK against the
projected map. -/
theorem acceptedEntriesWouldApply : Obligations.AcceptedEntriesWouldApply := by
  intro s t p r ops c hsel hin hr hl hexec happended
  have hok : c.check s.closeLane.projected = .ok := by
    have hcase : r ≠ .renew ∧ r ≠ .readIdentity ∧ Request.afterTiming r = false := by
      simp only [List.mem_cons, List.not_mem_nil, or_false] at hr
      rcases hr with rfl | rfl | rfl | rfl | rfl <;> exact ⟨nofun, nofun, rfl⟩
    obtain ⟨hrenew, hid, hafter⟩ := hcase
    have hkept : ∀ u : State, u.changes = s.closeLane.changes → t.changes ≠ u.changes := fun u hu h => by
      rw [hu, happended] at h
      simp at h
    cases hpass : s.registryRefusal p r with
    | some st =>
      rw [exec_refused hsel hl hrenew hpass] at hexec
      cases hexec
      exact absurd rfl (hkept (s.replied p r.code ops _) s.closeLane_changes.symm)
    | none =>
      have hserved : t.changes = (serve r p ops s.closeLane).1.changes := by
        rw [exec_block hsel hl hrenew hid hafter hpass rfl] at hexec
        cases hexec
        rfl
      rcases Classical.em (stagingInRange r ops) with hrange | hrange
      · obtain ⟨o, k, j, own, hserve, -, hcheck⟩ := (s.closeLane.staging_served p hr ops).inRange hrange
        rw [hserve, happended] at hserved
        obtain ⟨hown, ho, hk, hj⟩ := State.stageRequest_appends hserved.symm
        exact hcheck hown c ho hk hj
      · rw [(s.closeLane.staging_served p hr ops).outOfRange hrange] at hserved
        exact absurd hserved (hkept s.closeLane rfl)
  exact ⟨hok, by rw [Change.outcome_fst, ← State.projected_eq_mapAfter]; exact hok⟩

/-! ## The own checks (R58 to R63) -/

section
variable {m : List SlotEntry} {p : Station} {k : Nat}

theorem claimRefusal_free (hproducer : (mapEntry m k).producer = none) (hconsumer : (mapEntry m k).consumedBy p = false) :
    claimRefusal m p k = if 16 ≤ producerCount m p then some .limit else none := by
  simp only [claimRefusal, hproducer, hconsumer]
  rfl

theorem claimRefusal_consumer (hproducer : (mapEntry m k).producer = none)
    (hconsumer : (mapEntry m k).consumedBy p = true) : claimRefusal m p k = some .self := by
  simp [claimRefusal, hproducer, hconsumer]

theorem producer_ne_none_of_producedBy {e : SlotEntry} (h : e.producedBy p = true) : e.producer ≠ none := fun hno => by
  rw [SlotEntry.producedBy, hno] at h
  cases h

theorem claimRefusal_producer (h : (mapEntry m k).producedBy p = true) : claimRefusal m p k = some .already := by
  have hsome := Option.isSome_iff_ne_none.mpr (producer_ne_none_of_producedBy h)
  simp [claimRefusal, hsome, h]

theorem claimRefusal_held (hproducer : (mapEntry m k).producer ≠ none) (h : (mapEntry m k).producedBy p = false) :
    claimRefusal m p k = some .slotHeld := by
  have hsome := Option.isSome_iff_ne_none.mpr hproducer
  simp [claimRefusal, hsome, h]

/-- A slot with neither a producer nor a consumer record of p. -/
def slotFree (m : List SlotEntry) (p : Station) (k : Nat) : Prop :=
  (mapEntry m k).producer = none ∧ (mapEntry m k).consumedBy p = false

theorem slotFree_iff : ((mapEntry m k).producer.isNone && !(mapEntry m k).consumedBy p) = true ↔ slotFree m p k := by
  simp [slotFree]

theorem anySlot_eq_some (hk : k < 48) (hfree : slotFree m p k) (hlow : ∀ j < k, ¬ slotFree m p j) : anySlot m p = some k :=
  List.find?_range_eq_some.mpr ⟨slotFree_iff.mpr hfree, List.mem_range.mpr hk, fun j hj => by
    rw [Bool.not_eq_true', ← Bool.not_eq_true, slotFree_iff]
    exact hlow j hj⟩

theorem anySlot_eq_none (h : ∀ j < 48, ¬ slotFree m p j) : anySlot m p = none :=
  List.find?_range_eq_none.mpr fun j hj => by
    rw [Bool.not_eq_true', ← Bool.not_eq_true, slotFree_iff]
    exact h j hj

end

/-- Settles O23: a numbered slot by `claimRefusal`, any slot by `anySlot`. -/
theorem claimSlotStagesOrRefuses : Obligations.ClaimSlotStagesOrRefuses := by
  intro s p x hsel hin m held free hlist hquota
  have hroom : s.closeLane.hasStagingRoom (some p) := ⟨hlist, fun n hn => Option.some.inj hn ▸ hquota⟩
  have hr : Request.claimSlot ∈ stagingRequests := by decide
  have hstages : ∀ {j}, serveClaimSlot p [x] s.closeLane = s.closeLane.stageRequest (some p) .claim j none →
      s.stages p .claimSlot [x] (some p) .claim j := fun h =>
    State.stages_of_served hr hsel rfl hin nofun hlist (h.trans (State.stageRequest_accept hroom _ _))
  have hrefuses : ∀ {j st}, serveClaimSlot p [x] s.closeLane = s.closeLane.stageRequest (some p) .claim j (some st) →
      s.refuses p .claimSlot [x] st := fun h =>
    State.refuses_of_served hr hsel rfl hin nofun (h.trans (State.stageRequest_refuse hroom _ _ _))
  constructor
  · intro k hk hx
    have hserve : ∀ own, claimRefusal m p k = own →
        serveClaimSlot p [x] s.closeLane = s.closeLane.stageRequest (some p) .claim k own := fun own hown => by
      subst hx
      exact hown ▸ if_pos hk
    refine ⟨fun hfree hlow => hstages (hserve _ ?_), fun hfree hfull => hrefuses (hserve _ ?_), fun hno hmine =>
      hrefuses (hserve _ (claimRefusal_consumer hno hmine)), fun hmine => hrefuses (hserve _ (claimRefusal_producer hmine)),
      fun hheld hother => hrefuses (hserve _ (claimRefusal_held hheld hother))⟩
    · rw [claimRefusal_free hfree.1 hfree.2, if_neg (not_le.mpr hlow)]
    · rw [claimRefusal_free hfree.1 hfree.2, if_pos hfull]
  · rintro rfl
    have hany : serveClaimSlot p [0xFF] s.closeLane = (match anySlot m p with
        | some j => s.closeLane.stageRequest (some p) .claim j (if 16 ≤ held then some .limit else none)
        | none => s.closeLane.stageRequest (some p) .claim 0 (some .slotHeld)) := rfl
    refine ⟨fun k hk hfree hlow => ?_, fun hnone => ?_⟩
    · rw [anySlot_eq_some hk hfree hlow] at hany
      refine ⟨fun hlt => hstages (hany.trans ?_), fun hfull => hrefuses (j := k) (hany.trans ?_)⟩
      · rw [if_neg (not_le.mpr hlt)]
      · rw [if_pos hfull]
    · rw [anySlot_eq_none hnone] at hany
      exact hrefuses hany

theorem LogMode.ofCode_code (mode : LogMode) : LogMode.ofCode mode.code = some mode := by cases mode <;> rfl

/-- Settles O24. -/
theorem otherStagingRequests : Obligations.OtherStagingRequests := by
  intro s p x k hsel hin hk hx hlist e
  subst hx
  refine ⟨fun hquota => ?_, fun hrole => ?_⟩
  · have hroom : s.closeLane.hasStagingRoom (some p) := ⟨hlist, fun n hn => Option.some.inj hn ▸ hquota⟩
    have hstages : ∀ {r ops kind own}, r ∈ stagingRequests → r.lengthOk ops.length = true → r ≠ .forceRelease →
        serve r p ops s.closeLane = s.closeLane.stageRequest (some p) kind x.toNat own → own = none →
        s.stages p r ops (some p) kind x.toNat := fun hr hl hne hserve hown =>
      State.stages_of_served hr hsel hl hin (fun h => absurd h hne) hlist
        (hserve.trans (hown ▸ State.stageRequest_accept hroom _ _))
    have hrefuses : ∀ {r ops kind own st}, r ∈ stagingRequests → r.lengthOk ops.length = true → r ≠ .forceRelease →
        serve r p ops s.closeLane = s.closeLane.stageRequest (some p) kind x.toNat own → own = some st →
        s.refuses p r ops st := fun hr hl hne hserve hown =>
      State.refuses_of_served hr hsel hl hin (fun h => absurd h hne)
        (hserve.trans (hown ▸ State.stageRequest_refuse hroom _ _ _))
    have hrelease : serve .releaseSlot p [x] s.closeLane = s.closeLane.stageRequest (some p) .release x.toNat
        (if e.producedBy p then none else some .notOwner) := if_pos hk
    have hunsubscribe : serve .unsubscribe p [x] s.closeLane = s.closeLane.stageRequest (some p) .unsubscribe x.toNat
        (if e.consumedBy p then none else some .notSubscribed) := if_pos hk
    refine ⟨fun h => hstages (by decide) rfl nofun hrelease (if_pos h),
      fun h => hrefuses (by decide) rfl nofun hrelease (if_neg (by rw [h]; nofun)),
      fun h => hstages (by decide) rfl nofun hunsubscribe (if_pos h),
      fun h => hrefuses (by decide) rfl nofun hunsubscribe (if_neg (by rw [h]; nofun)), fun y mode hy => ?_⟩
    have hcode : y = mode.code := by rw [hy]; cases mode <;> rfl
    have hsubscribe : serve .subscribe p [x, y] s.closeLane = s.closeLane.stageRequest (some p) (.subscribe mode) x.toNat
        (subscribeRefusal e p mode) := by
      show serveSubscribe p [x, y] s.closeLane = _
      unfold serveSubscribe
      rw [show operand [x, y] 1 = mode.code from hcode, LogMode.ofCode_code]
      exact if_pos hk
    refine ⟨fun h => hrefuses (by decide) rfl nofun hsubscribe (if_pos h), fun h hs => hrefuses (by decide) rfl nofun
        hsubscribe ((if_neg (by rw [h]; nofun)).trans (if_pos hs)), fun h hc hfull => hrefuses (by decide) rfl nofun
        hsubscribe ?_, fun h hs hroom => hstages (by decide) rfl nofun hsubscribe ?_⟩
    · have hsame : e.consumers.any (fun c => c.station == p && c.mode == mode) = false :=
        List.any_eq_false.mpr fun c hcm => by simp [List.any_eq_false.mp hc c hcm]
      simp [subscribeRefusal, h, hsame, hc, Config.consumerLimit, hfull]
    · have hlimit : ¬ (e.consumedBy p = false ∧ 3 ≤ e.consumers.length) := by
        rintro ⟨hno, hfull⟩
        rcases hroom with hmine | hlt
        · rw [hno] at hmine; cases hmine
        · omega
      simp only [subscribeRefusal, h, Bool.false_eq_true, if_false]
      rw [if_neg (by rw [hs]; nofun), if_neg (by simpa [Config.consumerLimit] using hlimit)]
  · have hroom : s.closeLane.hasStagingRoom none := ⟨hlist, nofun⟩
    have hr : Request.forceRelease ∈ stagingRequests := by decide
    have hserve : serve .forceRelease p [x] s.closeLane = s.closeLane.stageRequest none .forceRelease x.toNat
        (if e.producer.isSome then none else some .noEntry) := if_pos hk
    refine ⟨fun h => ?_, fun h => ?_⟩
    · rw [if_pos (Option.isSome_iff_ne_none.mpr h), State.stageRequest_accept hroom] at hserve
      exact State.stages_of_served hr hsel rfl hin (fun _ => hrole) hlist hserve
    · rw [h] at hserve
      exact State.refuses_of_served hr hsel rfl hin (fun _ => hrole)
        (hserve.trans (State.stageRequest_refuse hroom _ _ _))

end Sys2Proof.Machine
end

section
/-! SUPPORT. WITHDRAW, LIST CHANGES, READ MAP and PUBLISH. -/

namespace Sys2Proof.Machine

/-! ## WITHDRAW (R66) -/

/-- The only element of a list that passes a test is the one found. -/
theorem find?_of_only {α : Type} {l : List α} {q : α → Bool} {a : α} (ha : a ∈ l) (hq : q a = true)
    (honly : ∀ b ∈ l, q b = true → b = a) : l.find? q = some a := by
  cases h : l.find? q with
  | none => exact absurd hq (by simpa using List.find?_eq_none.mp h a ha)
  | some b => rw [honly b (List.mem_of_find?_eq_some h) (List.find?_some h)]

theorem ChangeKind.code_shown (k : ChangeKind) : k.entryKind.code = k.shown.onLink := by cases k <;> rfl

section
variable {u : State} {p : Station} {x : Byte} {c : Change}

theorem serveWithdraw_removes (hfind : u.changes.find? (fun d => d.id == x.toNat) = some c)
    (hmine : c.origin = some p ∨ (c.origin = none ∧ u.holdsRole p = true)) :
    serveWithdraw p [x] u = (u.setChanges (u.changes.filter (fun d => d.id ≠ x.toNat)),
      ok [c.kind.shown.onLink, byte c.slot]) := by
  unfold serveWithdraw
  rw [show operand [x] 0 = x from rfl, ← ChangeKind.code_shown]
  simp only [hfind]
  rcases hmine with ho | ⟨ho, hrole⟩
  · rw [ho]
    exact if_pos rfl
  · rw [ho]
    exact if_pos hrole

theorem serveWithdraw_other (hfind : u.changes.find? (fun d => d.id == x.toNat) = some c) {n : Station}
    (ho : c.origin = some n) (hne : n ≠ p) : serveWithdraw p [x] u = (u, refuse .noEntry) := by
  unfold serveWithdraw
  rw [show operand [x] 0 = x from rfl]
  simp only [hfind]
  rw [ho]
  exact if_neg hne

theorem serveWithdraw_forced (hfind : u.changes.find? (fun d => d.id == x.toNat) = some c) (ho : c.origin = none)
    (hrole : ¬ u.holdsRole p = true) : serveWithdraw p [x] u = (u, refuse .notCoordinator) := by
  unfold serveWithdraw
  rw [show operand [x] 0 = x from rfl]
  simp only [hfind]
  rw [ho]
  exact if_neg hrole

theorem serveWithdraw_none (hfind : u.changes.find? (fun d => d.id == x.toNat) = none) :
    serveWithdraw p [x] u = (u, refuse .noEntry) := by
  unfold serveWithdraw
  rw [show operand [x] 0 = x from rfl]
  simp only [hfind]

end

/-- Settles O28: with distinct ids the entry found is the only one with the id. -/
theorem withdrawRemovesOneEntry : Obligations.WithdrawRemovesOneEntry := by
  intro s p x hsel hin hlaw
  have hserved : ∀ {t reply}, serveWithdraw p [x] s.closeLane = (t, reply) →
      exec (.withdraw p (requestFrame 0x14 [x])) s = .next (t.replied p 0x14 [x] reply) := fun hserve =>
    exec_block (r := .withdraw) hsel rfl nofun nofun rfl (State.passes_of_joined hin nofun nofun) hserve
  have hrole : s.closeLane.holdsRole p = true ↔ s.registry.coordinator = some p := by
    rw [State.holdsRole_iff, State.closeLane_registry]
  refine ⟨fun c hc hid => ?_, fun hnone => hserved (serveWithdraw_none (List.find?_eq_none.mpr fun d hd => by
    simpa using hnone d hd))⟩
  have hfind : s.closeLane.changes.find? (fun d => d.id == x.toNat) = some c :=
    find?_of_only hc (beq_iff_eq.mpr hid) fun d hd hdid =>
      List.inj_on_of_nodup_map hlaw.2.1 hd hc ((beq_iff_eq.mp hdid).trans hid.symm)
  exact ⟨fun hmine => hserved (serveWithdraw_removes hfind (hmine.imp_right fun h => ⟨h.1, hrole.mpr h.2⟩)),
    fun n ho hne => hserved (serveWithdraw_other hfind ho hne),
    fun ho hnot => hserved (serveWithdraw_forced hfind ho (mt hrole.mp hnot))⟩

/-! ## LIST CHANGES and READ MAP (R51, R67) -/

/-- Each entry with the result it gives against the projection of those before it. -/
theorem projectedResults_eq (m : List SlotEntry) (l k : List Change) : projectedResults (projectFrom m k) l =
    (l.zipIdx k.length).map (fun x => (x.1, x.1.check (projectFrom m ((k ++ l).take x.2)))) := by
  induction l generalizing k with
  | nil => rfl
  | cons c l ih =>
    have hnext : (projectFrom m (k ++ [c])) = c.onMap (projectFrom m k) := by simp [projectFrom]
    have hrest := ih (k ++ [c])
    rw [hnext, List.append_assoc, List.length_append] at hrest
    rw [projectedResults, List.zipIdx_cons, List.map_cons, hrest]
    simp

theorem State.results_eq (s : State) : projectedResults (s.slotMap.map SlotEntry.removeDue) s.changes =
    s.changes.zipIdx.map (fun x => (x.1, (x.1.outcome (s.mapAfter x.2)).1)) := by
  simp only [Change.outcome_fst, State.mapAfter_eq]
  exact projectedResults_eq _ s.changes []

theorem ChangeResult.code_onLink (r : ChangeResult) : r.code = r.onLink := by cases r <;> rfl

theorem changeBytes_eq (c : Change) (r : ChangeResult) : changeBytes (c, r) =
    [byte c.id, (match c.origin with | none => (0 : Byte) | some n => stationByte n), c.kind.shown.onLink, byte c.slot,
      (match c.kind with | .subscribe .every => (1 : Byte) | .subscribe .fresh => 2 | _ => 0)] ++
    bytes16 c.stamp ++ [r.onLink] := by
  have horigin : stationOrNone c.origin = (match c.origin with | none => (0 : Byte) | some n => stationByte n) := by
    cases c.origin <;> rfl
  have hmode : c.kind.mode.code =
      (match c.kind with | .subscribe .every => (1 : Byte) | .subscribe .fresh => 2 | _ => 0) := by
    cases c.kind with
    | subscribe mode => cases mode <;> rfl
    | claim => rfl
    | release => rfl
    | unsubscribe => rfl
    | forceRelease => rfl
  rw [changeBytes, horigin, hmode, ChangeKind.code_shown, ChangeResult.code_onLink]

theorem consumerBytes_eq (c : Consumer) : consumerBytes c = [stationByte c.station,
    (match c.mode with | .none => (0 : Byte) | .every => 1 | .fresh => 2),
    ((if c.releaseDue then 1 else 0) + (if c.orphaned then 2 else 0) : Byte)] := by
  rw [consumerBytes, roleFlags_eq]
  cases c.mode <;> rfl

theorem producerBytes_eq (e : SlotEntry) : producerBytes e = (match e.producer with
    | none => [(0 : Byte), 0]
    | some q => [stationByte q.station, (if q.releaseDue then 1 else 0) + (if q.orphaned then 2 else 0)]) := by
  unfold producerBytes
  cases e.producer with
  | none => rfl
  | some q => simp only [roleFlags_eq]

/-- Settles O29. -/
theorem listChangesAndReadMapReport : Obligations.ListChangesAndReadMapReport := by
  refine ⟨fun s p hsel hin => ?_, fun s p x hsel hin => ?_⟩
  · intro u listed record out
    refine exec_block (r := .listChanges) hsel rfl nofun nofun rfl (State.passes_of_joined hin nofun nofun) ?_
    have hlisted : u.listed p = listed.map (fun x => (x.1, (x.1.outcome (u.mapAfter x.2)).1)) := by
      rw [State.listed, State.results_eq, List.filter_map]
      congr 1
      refine List.filter_congr fun x _ => ?_
      simp only [Function.comp_apply, State.holdsRole, u, State.closeLane_registry]
      rw [Bool.eq_iff_iff]
      simp
    have hrecord : ∀ x, changeBytes (x.1, (x.1.outcome (u.mapAfter x.2)).1) = record x := fun x => changeBytes_eq _ _
    show serveListChanges p [] u = _
    rw [serveListChanges, hlisted, List.length_map, List.flatMap_map, funext hrecord]
    rfl
  · intro u e flags out
    have hserved : ∀ {t reply}, serveReadMap p [x] s.closeLane = (t, reply) →
        exec (.readMap p (requestFrame 0x16 [x])) s = .next (t.replied p 0x16 [x] reply) := fun hserve =>
      exec_block (r := .readMap) hsel rfl nofun nofun rfl (State.passes_of_joined hin nofun nofun) hserve
    refine ⟨fun hx => hserved ((if_pos hx).trans ?_), fun hx => hserved (if_neg (not_lt.mpr hx))⟩
    rw [show operand [x] 0 = x from rfl, byte_of_toNat, producerBytes_eq, funext consumerBytes_eq]
    rfl

/-! ## PUBLISH (R78, R79) -/

/-- A pair of a PUBLISH as sent: slot, high byte, low byte. -/
abbrev SentPair : Type := Byte × Byte × Byte

/-- The operand bytes of pairs. -/
def sentBytes (l : List SentPair) : List Byte := l.flatMap (fun x => [x.1, x.2.1, x.2.2])

theorem publishPairs_sentBytes (l : List SentPair) :
    publishPairs (sentBytes l) = l.map (fun x => (x.1.toNat, word16 x.2.1 x.2.2)) := by
  induction l with
  | nil => rfl
  | cons x l ih =>
    show publishPairs (x.1 :: x.2.1 :: x.2.2 :: sentBytes l) = _
    rw [publishPairs, ih, List.map_cons]

theorem sentBytes_length (l : List SentPair) : (sentBytes l).length = 3 * l.length := by
  induction l with
  | nil => rfl
  | cons x l ih =>
    show (sentBytes l).length + 1 + 1 + 1 = _
    rw [ih, List.length_cons]
    omega

theorem Request.lengthOk_sentBytes {l : List SentPair} (hpos : 1 ≤ l.length) (hmax : l.length ≤ 8) :
    Request.publish.lengthOk (sentBytes l).length = true := by
  rw [sentBytes_length]
  simp only [Request.lengthOk, Bool.and_eq_true, decide_eq_true_eq, beq_iff_eq]
  omega

/-- The pair names a slot that p produces with a live role (R78). -/
def State.pairPasses (s : State) (p : Station) (x : SentPair) : Prop :=
  x.1.toNat < 48 ∧ (s.entry x.1.toNat).liveProducer p = true

theorem State.pairRefusal_none {s : State} {p : Station} {x : SentPair} (h : s.pairPasses p x) :
    s.pairRefusal p (x.1.toNat, word16 x.2.1 x.2.2) = none :=
  (if_neg (not_le.mpr h.1)).trans (if_pos h.2)

theorem State.pairRefusal_some {s : State} {p : Station} {x : SentPair} (h : ¬ s.pairPasses p x) :
    s.pairRefusal p (x.1.toNat, word16 x.2.1 x.2.2) = some (if x.1.toNat < 48 then .notOwner else .badOperand) := by
  by_cases hx : x.1.toNat < 48
  · rw [if_pos hx]
    exact (if_neg (not_le.mpr hx)).trans (if_neg fun hlive => h ⟨hx, hlive⟩)
  · rw [if_neg hx]
    exact if_pos (not_lt.mp hx)

theorem State.firstFailing_passing (s : State) (p : Station) (l : List SentPair) (rest : List (Nat × Word))
    (h : ∀ x ∈ l, s.pairPasses p x) (i : Nat) :
    s.firstFailing p i (l.map (fun x => (x.1.toNat, word16 x.2.1 x.2.2)) ++ rest) = s.firstFailing p (i + l.length) rest := by
  induction l generalizing i with
  | nil => rfl
  | cons x l ih =>
    rw [List.map_cons, List.cons_append, State.firstFailing, State.pairRefusal_none (h x (by simp)), List.length_cons,
      Nat.add_comm l.length 1, ← Nat.add_assoc]
    exact ih (fun y hy => h y (by simp [hy])) (i + 1)

/-- A slot after a pair is written. -/
theorem getD_writePair (l : List SlotState) (x : Nat × Word) (k : Nat) (hx : x.1 < l.length) :
    (writePair l x).getD k resetSlot =
      if x.1 = k then { l.getD k resetSlot with buffer := x.2, written := true } else l.getD k resetSlot := by
  rw [writePair, List.getD_eq_getElem?_getD, List.getElem?_set]
  split
  · next h => subst h; simp [hx]
  · rw [List.getD_eq_getElem?_getD]

theorem foldl_writePair_length (l : List (Nat × Word)) (slots : List SlotState) :
    (l.foldl writePair slots).length = slots.length := by
  induction l generalizing slots with
  | nil => rfl
  | cons x l ih => rw [List.foldl_cons, ih, writePair, List.length_set]

/-- The last pair of a slot stands; its other fields stay (R79). -/
theorem getD_foldl_writePair (slots : List SlotState) (l : List SentPair) (h : ∀ x ∈ l, x.1.toNat < slots.length) (k : Nat) :
    ((l.map (fun x => (x.1.toNat, word16 x.2.1 x.2.2))).foldl writePair slots).getD k resetSlot =
      match l.reverse.find? (fun x => x.1.toNat = k) with
      | some x => { slots.getD k resetSlot with buffer := word16 x.2.1 x.2.2, written := true }
      | none => slots.getD k resetSlot := by
  induction l using List.reverseRecOn with
  | nil => rfl
  | append_singleton l x ih =>
    have hx : x.1.toNat < slots.length := h x (by simp)
    have hrest := ih fun y hy => h y (by simp [hy])
    rw [List.map_append, List.foldl_append, List.map_singleton, List.foldl_cons, List.foldl_nil,
      getD_writePair _ _ _ (by rw [foldl_writePair_length]; exact hx), hrest, List.reverse_concat, List.find?_cons]
    by_cases hk : x.1.toNat = k
    · simp only [hk, if_true, decide_true]
      cases l.reverse.find? (fun x => x.1.toNat = k) <;> rfl
    · simp only [hk, if_false, decide_false]

theorem distinctSlots_eq (l : List SentPair) :
    distinctSlots (l.map (fun x => (x.1.toNat, word16 x.2.1 x.2.2))) = (l.map (fun x => x.1)).dedup.length := by
  have hfst : (l.map (fun x => (x.1.toNat, word16 x.2.1 x.2.2))).map Prod.fst = (l.map (fun x => x.1)).map BitVec.toNat := by
    simp [Function.comp_def]
  rw [distinctSlots, hfst, List.dedup_map_of_injective fun _ _ => BitVec.eq_of_toNat_eq, List.length_map]

theorem State.slot_length_closeLane (s : State) : s.closeLane.slots = s.slots := s.closeLane_sameBesideLane.slots

/-- Settles O30: the first failing pair decides, and without one the pairs are written in order. -/
theorem publishWritesAllOrNothing : Obligations.PublishWritesAllOrNothing := by
  intro s p l hsel hin hpos hmax hslots u ops out passes
  have hserved : ∀ {t reply}, servePublish p (sentBytes l) u = (t, reply) →
      exec (.publish p (requestFrame 0x20 (sentBytes l))) s = .next (t.replied p 0x20 (sentBytes l) reply) := fun hserve =>
    exec_block (r := .publish) hsel (Request.lengthOk_sentBytes hpos hmax) nofun nofun rfl (State.passes_of_present hin rfl)
      hserve
  refine ⟨fun hall => ⟨(publishPairs (sentBytes l)).foldl writePair u.slots, ?_, fun k _ => ?_, hserved ?_⟩,
    fun before after x hl hbefore hx => hserved ?_⟩
  · rw [foldl_writePair_length, State.slot_length_closeLane, hslots]
  · rw [publishPairs_sentBytes]
    refine getD_foldl_writePair u.slots l (fun x hxl => ?_) k
    rw [State.slot_length_closeLane, hslots]
    exact (hall x hxl).1
  · have hnone := u.firstFailing_passing p l [] hall 1
    rw [List.append_nil, ← publishPairs_sentBytes] at hnone
    unfold servePublish
    simp only [hnone, State.firstFailing]
    rw [publishPairs_sentBytes, distinctSlots_eq]
    rfl
  · have hfails := u.firstFailing_passing p before ((x :: after).map (fun x => (x.1.toNat, word16 x.2.1 x.2.2))) hbefore 1
    rw [← List.map_append, ← hl, ← publishPairs_sentBytes, List.map_cons, State.firstFailing,
      State.pairRefusal_some hx] at hfails
    unfold servePublish
    simp only [hfails, Nat.add_comm 1]

end Sys2Proof.Machine
end

section
/-! SUPPORT. POST (R103 to R108). -/

namespace Sys2Proof.Machine

/-! ## The operands (R108, steps 2 and 3) -/

theorem postDest_stationOrNone (p : Station) (dest : Option Station) :
    postDest p (stationOrNone dest) = if dest = some p then none else some dest := by
  cases dest with
  | none => rfl
  | some n => cases n <;> cases p <;> rfl

theorem postDest_none {p : Station} {d : Byte} (h : 4 < d.toNat) : postDest p d = none := by
  unfold postDest
  rw [if_neg (by rintro rfl; exact absurd h (by decide)), Station.ofNumber_none (.inr h)]

theorem stationOrNone_of_le {d : Byte} (h : d.toNat ≤ 4) : ∃ dest, d = stationOrNone dest := by
  have hcases : d.toNat = 0 ∨ d.toNat = 1 ∨ d.toNat = 2 ∨ d.toNat = 3 ∨ d.toNat = 4 := by omega
  rcases hcases with h | h | h | h | h
  · exact ⟨none, BitVec.eq_of_toNat_eq h⟩
  · exact ⟨some .s1, BitVec.eq_of_toNat_eq h⟩
  · exact ⟨some .s2, BitVec.eq_of_toNat_eq h⟩
  · exact ⟨some .s3, BitVec.eq_of_toNat_eq h⟩
  · exact ⟨some .s4, BitVec.eq_of_toNat_eq h⟩

theorem stationOrNone_le (dest : Option Station) : (stationOrNone dest).toNat ≤ 4 := by
  cases dest with
  | none => decide
  | some n => cases n <;> decide

theorem stationOrNone_inj {a b : Option Station} : stationOrNone a = stationOrNone b ↔ a = b := by
  refine ⟨fun h => ?_, fun h => h ▸ rfl⟩
  cases a with
  | none => cases b with
    | none => rfl
    | some n => cases n <;> cases h
  | some m => cases b with
    | none => cases m <;> cases h
    | some n => cases m <;> cases n <;> first | rfl | cases h

theorem MsgClass.ofCode_code (cls : MsgClass) : MsgClass.ofCode cls.code = some cls := by cases cls <;> rfl

theorem MsgClass.code_of_le {c : Byte} (h : c.toNat ≤ 1) : ∃ cls : MsgClass, c = cls.code := by
  have hcases : c.toNat = 0 ∨ c.toNat = 1 := by omega
  rcases hcases with h | h
  · exact ⟨.normal, BitVec.eq_of_toNat_eq h⟩
  · exact ⟨.urgent, BitVec.eq_of_toNat_eq h⟩

theorem MsgClass.ofCode_none {c : Byte} (h : 1 < c.toNat) : MsgClass.ofCode c = none := by
  unfold MsgClass.ofCode
  rw [if_neg (by rintro rfl; exact absurd h (by decide)), if_neg (by rintro rfl; exact absurd h (by decide))]

theorem one_le_toNat {b : Byte} : 1 ≤ b.toNat ↔ b ≠ 0 := by
  rw [Nat.one_le_iff_ne_zero]
  exact ⟨fun h hzero => h (hzero ▸ rfl), fun h hzero => h (BitVec.eq_of_toNat_eq hzero)⟩

/-- The operand bytes of a POST. -/
def postBytes (d c flags tag timeout len : Byte) (payload : List Byte) : List Byte :=
  [d, c, flags, tag, timeout, len] ++ payload

theorem Request.lengthOk_postBytes (d c flags tag timeout len : Byte) {payload : List Byte} (hmin : 1 ≤ payload.length)
    (hmax : payload.length ≤ 60) : Request.post.lengthOk (postBytes d c flags tag timeout len payload).length = true := by
  simp [Request.lengthOk, postBytes]
  omega

/-- The operands of a POST as its bytes give them (R103). -/
def postedOperands (dest : Option Station) (cls : MsgClass) (flags tag timeout : Byte) (payload : List Byte) : PostOperands :=
  { dest := dest, cls := cls, tag := tag, ackTimeout := if flags.getLsbD 0 then some timeout.toNat else none,
    payload := payload }

/-- Step 3 of R108. -/
def postFormed (dest : Option Station) (flags timeout len : Byte) (payload : List Byte) : Prop :=
  1 ≤ len.toNat ∧ len.toNat ≤ Config.maxPayload ∧ len.toNat = payload.length ∧ (flags.getLsbD 0 = true → 1 ≤ timeout.toNat) ∧
    (flags.getLsbD 0 = true → dest.isSome = true)

section
variable {p : Station} {dest : Option Station} {cls : MsgClass} {flags tag timeout len d c : Byte} {payload : List Byte}

theorem postOperands_formed (hdest : dest ≠ some p) (h : postFormed dest flags timeout len payload) :
    postOperands p (postBytes (stationOrNone dest) cls.code flags tag timeout len payload) =
      some (postedOperands dest cls flags tag timeout payload) := by
  unfold postOperands
  rw [show operand (postBytes (stationOrNone dest) cls.code flags tag timeout len payload) 0 = stationOrNone dest from rfl,
    show operand (postBytes (stationOrNone dest) cls.code flags tag timeout len payload) 1 = cls.code from rfl,
    postDest_stationOrNone, if_neg hdest, MsgClass.ofCode_code]
  exact if_pos h

theorem postOperands_unformed (h : ¬ postFormed dest flags timeout len payload) :
    postOperands p (postBytes (stationOrNone dest) cls.code flags tag timeout len payload) = none := by
  unfold postOperands
  rw [show operand (postBytes (stationOrNone dest) cls.code flags tag timeout len payload) 0 = stationOrNone dest from rfl,
    show operand (postBytes (stationOrNone dest) cls.code flags tag timeout len payload) 1 = cls.code from rfl,
    postDest_stationOrNone, MsgClass.ofCode_code]
  split_ifs
  · rfl
  · exact if_neg h

theorem postOperands_noDest (h : postDest p d = none) : postOperands p (postBytes d c flags tag timeout len payload) = none := by
  unfold postOperands
  rw [show operand (postBytes d c flags tag timeout len payload) 0 = d from rfl, h]

theorem postOperands_noClass (h : MsgClass.ofCode c = none) :
    postOperands p (postBytes d c flags tag timeout len payload) = none := by
  unfold postOperands
  rw [show operand (postBytes d c flags tag timeout len payload) 1 = c from rfl, h]
  cases postDest p (operand (postBytes d c flags tag timeout len payload) 0) <;> rfl

end

/-! ## The checks in order (R108) -/

theorem State.peerJoined_iff (s : State) (p : Station) (dest : Option Station) : s.peerJoined p dest = true ↔
    (stationOrNone dest = 0 → ∃ n, n ≠ p ∧ s.joined n = true) ∧ (∀ n, stationOrNone dest = stationByte n → s.joined n = true) := by
  have hstation : ∀ n, stationOrNone dest = stationByte n ↔ dest = some n := fun n =>
    stationOrNone_inj (a := dest) (b := some n)
  have hzero : stationOrNone dest = 0 ↔ dest = none := stationOrNone_inj (a := dest) (b := none)
  simp only [hstation, hzero]
  unfold State.peerJoined
  cases dest with
  | none => simp [List.any_eq_true, mem_stations]
  | some d => simp

section
variable {s : State} {p : Station} {o : PostOperands}

theorem State.postRefusal_noPeer (h : s.peerJoined p o.dest = false) : s.postRefusal p o = some .noPeer := if_pos h

theorem State.postRefusal_queueFull (h : s.peerJoined p o.dest = true)
    (hfull : classCapacity o.cls ≤ (s.lane.queue p o.cls).length) : s.postRefusal p o = some .queueFull :=
  (if_neg (by rw [h]; nofun)).trans (if_pos hfull)

theorem State.postRefusal_tableFull (h : s.peerJoined p o.dest = true)
    (hroom : (s.lane.queue p o.cls).length < classCapacity o.cls) (hwanted : o.ackTimeout.isSome = true)
    (hfull : 4 ≤ (s.acks.get p).length) : s.postRefusal p o = some .tableFull :=
  (if_neg (by rw [h]; nofun)).trans ((if_neg (not_le.mpr hroom)).trans (if_pos ⟨hwanted, hfull⟩))

theorem State.postRefusal_passes (h : s.peerJoined p o.dest = true)
    (hroom : (s.lane.queue p o.cls).length < classCapacity o.cls)
    (htable : o.ackTimeout.isSome = true → (s.acks.get p).length < 4) : s.postRefusal p o = none :=
  (if_neg (by rw [h]; nofun)).trans ((if_neg (not_le.mpr hroom)).trans
    (if_neg fun hfull => absurd (htable hfull.1) (not_lt.mpr hfull.2)))

end

theorem servePost_badOperand {s : State} {p : Station} {ops : List Byte} (h : postOperands p ops = none) :
    servePost p ops s = (s, refuse .badOperand) := by
  unfold servePost
  rw [h]

theorem servePost_refused {s : State} {p : Station} {ops : List Byte} {o : PostOperands} {st : Status}
    (h : postOperands p ops = some o) (hst : s.postRefusal p o = some st) : servePost p ops s = (s, refuse st) := by
  unfold servePost
  rw [h]
  simp only [hst]

theorem servePost_accepted {s : State} {p : Station} {ops : List Byte} {o : PostOperands}
    (h : postOperands p ops = some o) (hst : s.postRefusal p o = none) :
    servePost p ops s = (s.enqueue p (s.postedMessage p o),
      ok [s.nextSeq p, byte ((s.lane.queue p o.cls).length + 1)]) := by
  unfold servePost
  rw [h]
  simp only [hst]
  rfl

@[simp] theorem State.closeLane_joined (s : State) : s.closeLane.joined = s.joined :=
  State.joined_congr (by rw [State.closeLane_registry])

@[simp] theorem State.closeLane_present (s : State) : s.closeLane.present = s.present :=
  State.present_congr (by rw [State.closeLane_registry])

/-- Settles O36: ill-formed operands by each of their parts, then the checks of peer, queue and table. -/
theorem postChecksInOrder : Obligations.PostChecksInOrder := by
  intro s p d c flags tag timeout len payload hsel hin hmin hmax u ops wanted formed peer room
  have hrefused : ∀ {st}, servePost p ops u = (u, refuse st) → s.refuses p .post ops st := fun hserve =>
    exec_block (r := .post) hsel (Request.lengthOk_postBytes d c flags tag timeout len hmin hmax) nofun nofun rfl
      (State.passes_of_joined hin nofun nofun) hserve
  refine ⟨fun hbad => hrefused (servePost_badOperand ?_), ?_⟩
  · by_cases hd : d.toNat ≤ 4
    · by_cases hc : c.toNat ≤ 1
      · obtain ⟨dest, rfl⟩ := stationOrNone_of_le hd
        obtain ⟨cls, rfl⟩ := MsgClass.code_of_le hc
        by_cases hself : dest = some p
        · exact postOperands_noDest (by rw [postDest_stationOrNone, if_pos hself])
        · refine postOperands_unformed fun ⟨_, _, hlen, htimeout, hdest⟩ => hbad ⟨hlen, hd, fun h => hself ?_, hc, fun h =>
            ⟨one_le_toNat.mp (htimeout h), fun hzero => ?_⟩⟩
          · exact stationOrNone_inj (b := some p) |>.mp h
          · rw [(stationOrNone_inj (b := none)).mp hzero] at hdest
            cases hdest h
      · exact postOperands_noClass (MsgClass.ofCode_none (not_le.mp hc))
    · exact postOperands_noDest (postDest_none (not_le.mp hd))
  · have hparts : formed → ∃ (dest : Option Station) (cls : MsgClass), d = stationOrNone dest ∧ c = cls.code ∧
        postOperands p ops = some (postedOperands dest cls flags tag timeout payload) := by
      rintro ⟨hlen, hd, hself, hc, hwanted⟩
      obtain ⟨dest, rfl⟩ := stationOrNone_of_le hd
      obtain ⟨cls, rfl⟩ := MsgClass.code_of_le hc
      refine ⟨dest, cls, rfl, rfl, postOperands_formed (fun h => hself (h ▸ rfl)) ⟨hlen ▸ hmin, hlen ▸ hmax, hlen,
        fun h => one_le_toNat.mpr (hwanted h).1, fun h => Option.isSome_iff_ne_none.mpr fun hnone =>
          (hwanted h).2 (hnone ▸ rfl)⟩⟩
    have hpeer : ∀ {dest}, d = stationOrNone dest → (u.peerJoined p dest = true ↔ peer) := by
      rintro dest rfl
      rw [State.peerJoined_iff, State.closeLane_joined]
    have hroom : ∀ {cls : MsgClass}, c = cls.code → ((u.lane.queue p cls).length < classCapacity cls ↔ room) := by
      rintro cls rfl
      cases cls <;> rfl
    refine ⟨fun hf hno => ?_, fun hf hp hno => ?_, fun hf hp hr hw hfull => ?_⟩
    · obtain ⟨dest, cls, hd, hc, ho⟩ := hparts hf
      exact hrefused (servePost_refused ho (State.postRefusal_noPeer (Bool.eq_false_iff.mpr (mt (hpeer hd).mp hno))))
    · obtain ⟨dest, cls, hd, hc, ho⟩ := hparts hf
      exact hrefused (servePost_refused ho (State.postRefusal_queueFull ((hpeer hd).mpr hp)
        (not_lt.mp (mt (hroom hc).mp hno))))
    · obtain ⟨dest, cls, hd, hc, ho⟩ := hparts hf
      refine hrefused (servePost_refused ho (State.postRefusal_tableFull ((hpeer hd).mpr hp) ((hroom hc).mpr hr) ?_ hfull))
      simp only [postedOperands]
      rw [if_pos hw]
      rfl

/-! ## The message queued (R103 to R105, R140) -/

/-- What an accepted POST leaves. -/
theorem State.enqueue_posted (u : State) (p : Station) (dest : Option Station) (cls : MsgClass)
    (flags tag timeout : Byte) (payload : List Byte) :
    let o := postedOperands dest cls flags tag timeout payload
    let m := u.postedMessage p o
    let v := (u.setLane { u.lane.setTxQueue p cls (u.lane.queue p cls ++ [m]) with
        nextPosted := u.lane.nextPosted + 1 }).setStation p { u.station p with seqCounter := m.seq + 1 }
    u.enqueue p m = match flags.getLsbD 0, dest with
      | true, some n => v.setAckList p (u.acks.get p ++
          [({ seq := m.seq, tag := tag, dest := n, timeout := timeout.toNat, state := .queued } : AckEntry)])
      | _, _ => v := by
  intro o m v
  unfold State.enqueue
  show (match dest, (if flags.getLsbD 0 then some timeout.toNat else none) with
    | some d, some t => v.ackCreate p m.seq tag d t
    | _, _ => v) = _
  cases flags.getLsbD 0 <;> cases dest <;> rfl

/-- Settles O35. -/
theorem postQueuesTheMessage : Obligations.PostQueuesTheMessage := by
  intro s p dest cls flags tag timeout payload hsel hin hmin hmax hdest u wanted queue ops hwanted hpeer hroom htable
  have hops : ops = postBytes (stationOrNone dest) cls.code flags tag timeout (byte payload.length) payload := by
    show _ :: _ = _ :: _
    cases dest <;> cases cls <;> rfl
  have hlen : (byte payload.length).toNat = payload.length := byte_toNat (hmax.trans (by decide))
  have hoperands : postOperands p ops = some (postedOperands dest cls flags tag timeout payload) := by
    rw [hops]
    refine postOperands_formed hdest ⟨hlen.symm ▸ hmin, hlen.symm ▸ hmax, hlen, fun h => ?_, fun h => ?_⟩
    · exact one_le_toNat.mpr (hwanted h).1
    · exact Option.isSome_iff_ne_none.mpr (hwanted h).2.1
  have hpasses : u.postRefusal p (postedOperands dest cls flags tag timeout payload) = none := by
    refine State.postRefusal_passes ?_ ?_ fun h => ?_
    · have hjoined : u.joined = s.joined := s.closeLane_joined
      cases dest with
      | none =>
        obtain ⟨n, hne, hn⟩ := hpeer
        exact List.any_eq_true.mpr ⟨n, mem_stations n, by simp [hne, hjoined, hn]⟩
      | some d => exact (congrFun hjoined d).trans hpeer
    · cases cls <;> exact hroom
    · have hset : wanted = true := by
        by_contra hnot
        rw [postedOperands, if_neg hnot] at h
        cases h
      exact (hwanted hset).2.2
  obtain ⟨k, hk, hseq, hbefore, -⟩ := freeSeq_spec ((u.acks.get p).map (fun a => a.seq)) 4 (u.station p).seqCounter
  have hfree : u.nextSeq p ∉ (u.acks.get p).map (fun a => a.seq) :=
    freeSeq_not_mem _ _ _ (by decide) (by simpa using htable)
  have hcounter : (u.station p).seqCounter = (s.station p).seqCounter := by rw [State.closeLane_station]
  refine ⟨u.nextSeq p, k, hk, ?_, fun a ha heq => hfree (List.mem_map.mpr ⟨a, ha, heq⟩), fun j hj => ?_, ?_⟩
  · exact (show u.nextSeq p = _ from hseq).trans (by rw [hcounter])
  · obtain ⟨a, ha, heq⟩ := List.mem_map.mp (hbefore j hj)
    exact ⟨a, ha, heq.trans (by rw [hcounter])⟩
  · intro m v w
    have hw : u.enqueue p (u.postedMessage p (postedOperands dest cls flags tag timeout payload)) = w :=
      u.enqueue_posted p dest cls flags tag timeout payload
    refine exec_block (r := .post) hsel ?_ nofun nofun rfl (State.passes_of_joined hin nofun nofun) ?_
    · rw [hops]
      exact Request.lengthOk_postBytes _ _ _ _ _ _ hmin hmax
    · exact (servePost_accepted hoperands hpasses).trans (congrArg (fun t => (t, _)) hw)

end Sys2Proof.Machine
end

section
/-! SUPPORT. CANCEL, TAKE MESSAGE, PEEK MESSAGE, QUEUE STATUS and ACK. -/

namespace Sys2Proof.Machine

/-! ## CANCEL (R110, R131, R132) -/

theorem State.ackGone_if (s : State) {p : Station} {m : Message} (hm : m.source = p) : s.ackGone m =
    s.setAckList p (if m.ackTimeout.isSome then (s.acks.get p).filter (fun a => a.seq ≠ m.seq) else s.acks.get p) := by
  subst hm
  unfold State.ackGone Message.followed
  split
  · rfl
  · rw [State.setAckList_same]

/-- The oldest message with the tag is the one found. -/
theorem find?_inPostOrder {l : List Message} {tag : Byte} {m : Message} (hm : m ∈ l) (htag : m.tag = tag)
    (hdistinct : (l.map (fun g => g.posted)).Nodup) (holdest : ∀ g ∈ l, g.tag = tag → m.posted ≤ g.posted) :
    (inPostOrder l).find? (fun g => g.tag == tag) = some m := by
  have hsorted : (inPostOrder l).Pairwise (fun a b => a.posted ≤ b.posted) := by
    rw [inPostOrder_eq]
    exact List.pairwise_insertionSort _ l
  cases hfind : (inPostOrder l).find? (fun g => g.tag == tag) with
  | none =>
    have hnot := List.find?_eq_none.mp hfind m (mem_inPostOrder.mpr hm)
    exact absurd (beq_iff_eq.mpr htag) hnot
  | some g =>
    obtain ⟨hg, before, after, hsplit, hbefore⟩ := List.find?_eq_some_iff_append.mp hfind
    have hgl : g ∈ l := mem_inPostOrder.mp (List.mem_of_find?_eq_some hfind)
    have hle : g.posted ≤ m.posted := by
      have hmem : m ∈ before ++ g :: after := hsplit ▸ mem_inPostOrder.mpr hm
      rw [hsplit] at hsorted
      rcases List.mem_append.mp hmem with hmb | hma
      · have := hbefore m hmb
        simp [htag] at this
      · rcases List.mem_cons.mp hma with rfl | hma
        · exact le_rfl
        · exact (List.pairwise_cons.mp (List.pairwise_append.mp hsorted).2.1).1 m hma
    have hge : m.posted ≤ g.posted := holdest g hgl (beq_iff_eq.mp hg)
    exact congrArg some (List.inj_on_of_nodup_map hdistinct hgl hm (le_antisymm hle hge))

/-- The transfer in flight of a sender, as the list that `Lane.undelivered` adds. -/
def Lane.flightOf (l : Lane) (p : Station) : List Message :=
  match l.transfer with
  | none => []
  | some t => if t.msg.source = p then [t.msg] else []

theorem Lane.undelivered_eq (l : Lane) (p : Station) :
    l.undelivered p = inPostOrder (l.queue p .urgent ++ l.queue p .normal ++ l.flightOf p) := by
  unfold Lane.undelivered Lane.flightOf
  cases l.transfer <;> rfl

/-- A waiting message is not the transfer in flight. -/
theorem Lane.carries_waiting {l : Lane} {p : Station} {waiting : List Message} {m : Message} (hm : m ∈ waiting)
    (hsource : m.source = p) (hdistinct : ((waiting ++ l.flightOf p).map (fun g => g.posted)).Nodup) :
    l.carries m = false := by
  unfold Lane.carries
  cases ht : l.transfer with
  | none => rfl
  | some t =>
    simp only [Bool.and_eq_false_iff, beq_eq_false_iff_ne]
    by_cases hmine : t.msg.source = p
    · right
      intro heq
      have hflight : t.msg ∈ l.flightOf p := by simp [Lane.flightOf, ht, hmine]
      rw [List.map_append] at hdistinct
      exact (List.nodup_append.mp hdistinct).2.2 _ (List.mem_map_of_mem hm) _ (List.mem_map_of_mem hflight) heq.symm
    · left
      rw [hsource]
      exact hmine

theorem Lane.carries_flying {l : Lane} {t : Transfer} (h : l.transfer = some t) : l.carries t.msg = true := by
  simp [Lane.carries, h]

/-- Settles O37: the message found is the oldest with the tag; it waits in one of the queues or is in flight. -/
theorem cancelRemovesTheOldestWithTheTag : Obligations.CancelRemovesTheOldestWithTheTag := by
  intro s p tag hsel hin u mine hsource hdistinct hurgent hnormal
  have hserved : ∀ {t reply}, serveCancel p [tag] u = (t, reply) →
      exec (.cancel p (requestFrame 0x31 [tag])) s = .next (t.replied p 0x31 [tag] reply) := fun hserve =>
    exec_block (r := .cancel) hsel rfl nofun nofun rfl (State.passes_of_joined hin nofun nofun) hserve
  have hmine : mine = u.lane.queue p .urgent ++ u.lane.queue p .normal ++ u.lane.flightOf p := by
    show _ ++ _ = _ ++ _
    unfold Lane.flightOf
    cases u.lane.transfer <;> rfl
  have hundelivered : u.lane.undelivered p = inPostOrder mine := by rw [hmine, Lane.undelivered_eq]
  refine ⟨fun m hm htag holdest => ?_, fun hnone => hserved ?_⟩
  · intro acks answer keep
    have hp : m.source = p := hsource m hm
    have hfind : (inPostOrder mine).find? (fun g => g.tag == operand [tag] 0) = some m :=
      find?_inPostOrder hm htag hdistinct holdest
    have hdistinct' := hdistinct
    rw [hmine] at hdistinct'
    have hwaiting : ∀ {c}, m.cls = c → u.lane.carries m = false →
        serveCancel p [tag] u = ((u.setLane (u.lane.setTxQueue p c ((u.lane.queue p c).filter keep))).setAckList p acks,
          answer (match c with | .urgent => 0 | .normal => 1)) := fun {c} hc hcarries => by
      unfold serveCancel
      simp only [hundelivered, hfind]
      refine (if_neg (by rw [hcarries]; nofun)).trans ?_
      rw [State.ackGone_if _ hp, Lane.without, hp, hc]
      rfl
    have hcarries : m ∈ u.lane.queue p .urgent ++ u.lane.queue p .normal → u.lane.carries m = false := fun h =>
      Lane.carries_waiting h hp hdistinct'
    refine ⟨fun hmu => hserved ?_, fun hmn => hserved ?_, fun t ht hmt => hserved ?_⟩
    · exact hwaiting (hurgent m hmu) (hcarries (List.mem_append_left _ hmu))
    · exact hwaiting (hnormal m hmn) (hcarries (List.mem_append_right _ hmn))
    · unfold serveCancel
      simp only [hundelivered, hfind]
      refine (if_pos (hmt ▸ Lane.carries_flying ht)).trans ?_
      rw [State.ackGone_if _ hp]
      rfl
  · have hfind : (inPostOrder mine).find? (fun g => g.tag == operand [tag] 0) = none :=
      List.find?_eq_none.mpr fun g hg => by
        simpa [operand] using hnone g (mem_inPostOrder.mp hg)
    unfold serveCancel
    simp only [hundelivered, hfind]
    rfl

/-! ## TAKE MESSAGE, PEEK MESSAGE, QUEUE STATUS (R113 to R115) -/

theorem Lane.reserved_byte (l : Lane) (p : Station) : byte (l.reserved p) =
    (match l.transfer with | none => (0 : Byte) | some t => if p ∈ t.dests then 1 else 0) := by
  unfold Lane.reserved Lane.reservedAt
  cases l.transfer with
  | none => rfl
  | some t => by_cases h : p ∈ t.dests <;> simp [h] <;> rfl

theorem copyBytes_eq (c : Copy) (remaining reserved : Nat) : copyBytes c remaining reserved =
    [stationByte c.msg.source, (match c.msg.dest with | none => (0 : Byte) | some n => stationByte n),
      (match c.msg.cls with | .normal => (0 : Byte) | .urgent => 1),
      (match c.msg.ackTimeout with | none => (0 : Byte) | some _ => 1), c.msg.tag, c.msg.seq,
      (match c.msg.ackTimeout with | none => (0 : Byte) | some t => byte t)] ++
    bytes16 c.msg.stamp ++ bytes16 c.delivered ++ [byte remaining, byte reserved, byte c.msg.payload.length] ++
    c.msg.payload := by
  unfold copyBytes
  congr 4
  cases c.msg.dest <;> cases c.msg.cls <;> cases c.msg.ackTimeout <;> rfl

theorem flag_or_add (a b : Prop) [Decidable a] [Decidable b] :
    ((if a then 1 else 0) ||| (if b then 2 else 0) : Byte) = (if a then 1 else 0) + (if b then 2 else 0) := by
  by_cases ha : a <;> by_cases hb : b <;> simp [ha, hb]

theorem byte_indicator (a : Prop) [Decidable a] : byte (if a then 1 else 0) = if a then (1 : Byte) else 0 := by
  split <;> rfl

/-- Settles O38. -/
theorem receiveQueueRequests : Obligations.ReceiveQueueRequests := by
  refine ⟨fun s p hsel hin => ?_, fun s p hsel hin => ?_⟩
  · intro u reserved copy empty
    have hreserved : byte (u.lane.reserved p) = reserved := u.lane.reserved_byte p
    have hcopy : ∀ c k, copyBytes c k (u.lane.reserved p) = copy c (byte k) := fun c k => by
      rw [copyBytes_eq, hreserved] <;> rfl
    have htake : ∀ {t reply}, serveTakeMessage p [] u = (t, reply) →
        exec (.takeMessage p (requestFrame 0x32 [])) s = .next (t.replied p 0x32 [] reply) := fun hserve =>
      exec_block (r := .takeMessage) hsel rfl nofun nofun rfl (State.passes_of_present hin rfl) hserve
    have hpeek : ∀ {t reply}, servePeekMessage p [] u = (t, reply) →
        exec (.peekMessage p (requestFrame 0x33 [])) s = .next (t.replied p 0x33 [] reply) := fun hserve =>
      exec_block (r := .peekMessage) hsel rfl nofun nofun rfl (State.passes_of_present hin rfl) hserve
    refine ⟨fun hrx => ⟨htake ?_, hpeek ?_⟩, fun c rest hrx => ⟨htake ?_, hpeek ?_⟩⟩
    · simp only [serveTakeMessage, hrx, hreserved, empty]
    · simp only [servePeekMessage, hrx, hreserved, empty]
    · simp only [serveTakeMessage, hrx, hcopy]
      rfl
    · simp only [servePeekMessage, hrx, hcopy]
      rfl
  · intro l hold
    have hserved : ∀ {t reply}, serveQueueStatus p [] s.closeLane = (t, reply) →
        exec (.queueStatus p (requestFrame 0x35 [])) s = .next (t.replied p 0x35 [] reply) := fun hserve =>
      exec_block (r := .queueStatus) hsel rfl nofun nofun rfl (State.passes_of_present hin rfl) hserve
    have hholds : ∀ c, byte (l.headHold p c) = hold c := fun c => by
      simp only [Lane.headHold, hold]
      cases l.queue p c <;> rfl
    have hdeferred : indicator (l.deferred == some p) = if l.deferred = some p then 1 else 0 := by
      simp [indicator]
    cases ht : l.transfer with
    | none =>
      have hnone : l.reservedAt p = false ∧ l.sending p = false ∧ l.bytesAt p = 0 := by
        simp [Lane.reservedAt, Lane.sending, Lane.bytesAt, ht]
      obtain ⟨hreserved, hsending, hbytes⟩ := hnone
      refine hserved ?_
      simp only [serveQueueStatus, Lane.reserved]
      show (_, ok _) = (_, ok _)
      rw [hreserved, hsending, hbytes, hholds, hholds, hdeferred]
      rfl
    | some t =>
      have hsome : (l.reservedAt p = true ↔ p ∈ t.dests) ∧ (l.sending p = true ↔ t.msg.source = p) := by
        simp [Lane.reservedAt, Lane.sending, ht]
      obtain ⟨hreserved, hsending⟩ := hsome
      have hbytes : byte (l.bytesAt p) = if t.msg.source = p ∨ p ∈ t.dests then byte t.remaining else 0 := by
        simp only [Lane.bytesAt, ht, Lane.inFlightAt, Bool.or_eq_true, hreserved, hsending]
        split <;> rfl
      refine hserved ?_
      simp only [serveQueueStatus, Lane.reserved]
      show (_, ok _) = (_, ok _)
      rw [hbytes, hholds, hholds, hdeferred, if_congr hreserved rfl rfl, if_congr hreserved rfl rfl,
        if_congr hsending rfl rfl, flag_or_add, byte_indicator]

/-! ## ACK (R145, R146) -/

/-- The entry that an acknowledgement from p resolves. -/
theorem AckEntry.matches_iff (p : Station) (seq : Byte) (a : AckEntry) :
    AckEntry.matches p seq a = true ↔ a.seq = seq ∧ a.dest = p ∧ ∃ r st, a.state = .delivered r st := by
  unfold AckEntry.matches AckEntry.awaits
  cases a.state <;> simp

theorem State.ackStamp_eq (s : State) {a : AckEntry} {r : Nat} {d : Stamp} (h : a.state = .delivered r d) : s.ackStamp a =
    if d = stampOf s.timer.frame ∨ Work.ack ∉ s.due then stampOf s.timer.frame else stampOf (s.timer.frame - 1) := by
  unfold State.ackStamp State.stampAt State.frameAt State.stamp
  rw [h]
  by_cases hd : d = stampOf s.timer.frame <;> by_cases hdue : Work.ack ∈ s.due <;> simp [hd, hdue]

/-- Settles O43: with distinct sequence numbers the entry found is the only one with its number. -/
theorem ackResolvesADeliveredEntry : Obligations.AckResolvesADeliveredEntry := by
  intro s p n seq hsel hin hlaw u ops fits now stamp
  have hserved : ∀ {x t reply}, serveAck p [x, seq] u = (t, reply) →
      exec (.ack p (requestFrame 0x34 [x, seq])) s = .next (t.replied p 0x34 [x, seq] reply) := fun hserve =>
    exec_block (r := .ack) hsel rfl nofun nofun rfl (State.passes_of_present hin rfl) hserve
  have hnumber : Station.ofNumber (operand ops 0).toNat = some n := by
    rw [show operand ops 0 = stationByte n from rfl, stationByte_toNat, Station.ofNumber_number]
  have hcode : operand [stationByte n, seq] 1 = seq := rfl
  refine ⟨fun a ha hne hpresent hfits => hserved ?_, fun hne hnone => hserved ?_, fun heq => hserved ?_,
    fun x hx => hserved ?_⟩
  · have honly : ∀ b ∈ u.acks.get n, b.seq = seq → b = a := fun b hb hbs =>
      List.inj_on_of_nodup_map (hlaw n).2.1 hb ha (hbs.trans hfits.1.symm)
    have hmatch : AckEntry.matches p seq a = true := (AckEntry.matches_iff p seq a).mpr hfits
    have hfind : (u.acks.get n).find? (AckEntry.matches p seq) = some a :=
      find?_of_only ha hmatch fun b hb hbm => honly b hb ((AckEntry.matches_iff p seq b).mp hbm).1
    have hrest : (u.acks.get n).filter (fun b => !AckEntry.matches p seq b) =
        (u.acks.get n).filter (fun b => b.seq ≠ seq) := List.filter_congr fun b hb => by
      by_cases hbs : b.seq = seq
      · rw [honly b hb hbs, show AckEntry.matches p seq a = true from hmatch]
        simp [hfits.1]
      · have hno : AckEntry.matches p seq b = false :=
          Bool.eq_false_iff.mpr fun h => hbs ((AckEntry.matches_iff p seq b).mp h).1
        rw [hno]
        simp [hbs]
    obtain ⟨hseq, -, r, d, hstate⟩ := hfits
    have hstamp : u.ackStamp a = stamp a := by
      rw [State.ackStamp_eq u hstate]
      simp only [stamp, hstate, now, u, State.closeLane_timer]
    unfold serveAck
    rw [hnumber, hcode]
    refine (if_neg hne).trans ?_
    simp only [hfind]
    rw [hrest, hstamp, hseq, State.raise_told (by
      show u.present n = true
      rw [show u.present = s.present from s.closeLane_present]
      exact hpresent)]
    rfl
  · have hfind : (u.acks.get n).find? (AckEntry.matches p seq) = none :=
      List.find?_eq_none.mpr fun b hb hbm => hnone b hb ((AckEntry.matches_iff p seq b).mp hbm)
    unfold serveAck
    rw [hnumber, hcode]
    refine (if_neg hne).trans ?_
    simp only [hfind]
    rfl
  · unfold serveAck
    rw [hnumber]
    exact if_pos heq
  · unfold serveAck
    rw [show operand [x, seq] 0 = x from rfl, Station.ofNumber_none (hx.imp_left fun h => h ▸ rfl)]
    rfl

end Sys2Proof.Machine
end

section
/-! SUPPORT. The frame timer: boundaries with nothing due before them, and the works taken at them. -/

namespace Sys2Proof.Machine

/-! ## The pending record (R14) -/

/-- No record that would be applied or dropped at the boundary just made. -/
def Timer.quiet (t : Timer) : Prop := t.pendingTiming = none ∨ t.frame.toNat % 16 ≠ 0

theorem Timer.pendingTaken_quiet {t : Timer} (h : t.quiet) : t.pendingTaken = (t, []) := by
  unfold Timer.pendingTaken
  cases hp : t.pendingTiming with
  | none => rfl
  | some r =>
    have hepoch := h.resolve_left (by rw [hp]; nofun)
    exact if_pos hepoch

theorem Timer.pendingTaken_dropped {t : Timer} {r : TimingRecord} (hr : t.pendingTiming = some r)
    (hepoch : t.frame.toNat % 16 = 0) (hsame : r.period = t.period ∧ r.mode = t.mode) :
    t.pendingTaken = ({ t with pendingTiming := none }, []) := by
  unfold Timer.pendingTaken
  rw [hr]
  exact (if_neg (not_not.mpr hepoch)).trans (if_pos hsame)

/-- The reference state in which a mode begins (R14). -/
def TimingMode.firstRef (m : TimingMode) : RefState := match m with | .free => .off | .follow => .seeking

/-- The timer once a new record is applied (R14). -/
def Timer.withRecord (t : Timer) (r : TimingRecord) : Timer :=
  { t with
    period := r.period, mode := r.mode, refState := r.mode.firstRef, goodCount := 0, faultCount := 0
    anchor := t.lastBoundary, pendingTiming := none
    prevEdge := if t.mode = .free ∧ r.mode = .free then t.prevEdge else none }

theorem Timer.pendingTaken_applied {t : Timer} {r : TimingRecord} (hr : t.pendingTiming = some r)
    (hepoch : t.frame.toNat % 16 = 0) (hnew : ¬ (r.period = t.period ∧ r.mode = t.mode))
    (hfree : t.mode = .free → t.refState = .off ∧ t.goodCount = 0 ∧ t.faultCount = 0) :
    t.pendingTaken = (t.withRecord r, [.timing r.period r.mode r.mode.firstRef]) := by
  unfold Timer.pendingTaken
  rw [hr]
  refine (if_neg (not_not.mpr hepoch)).trans ((if_neg hnew).trans ?_)
  unfold Timer.withRecord
  cases hmode : t.mode with
  | follow => cases r.mode <;> rfl
  | free =>
    obtain ⟨hoff, hgood, hfault⟩ := hfree hmode
    cases r.mode with
    | follow => rfl
    | free => simp only [hoff, hgood, hfault, TimingMode.firstRef, and_self, if_true]

theorem PerStation.map_same {α : Type} (v : PerStation α) : v.map (fun _ a => a) = v :=
  PerStation.ext_get fun n => PerStation.get_map v _ n

theorem State.atBoundary_quiet (s : State) {made : Timer} (h : made.quiet) :
    s.atBoundary made [] = (s.setTimer made).setDue (boundaryWorks (made.frame.toNat % 16 == 0)) := by
  unfold State.atBoundary
  rw [Timer.pendingTaken_quiet h]
  simp only [List.append_nil, ite_self]
  rw [PerStation.map_same]
  rfl

/-! ## Boundaries (R2, R5, R11) -/

theorem State.atBoundary_timer (s : State) (made : Timer) (news : List Event) :
    (s.atBoundary made news).timer = made.pendingTaken.1 := rfl

theorem State.atBoundary_ports (s : State) (made : Timer) (news : List Event) : (s.atBoundary made news).ports = s.ports := rfl

theorem State.atBoundary_pending (s : State) (made : Timer) (news : List Event) :
    (s.atBoundary made news).pending = s.pending := rfl

/-- A boundary with nothing due before it. -/
theorem State.makeBoundary_idle {s : State} (h : s.due = []) (announce : Bool) : s.makeBoundary announce =
    s.atBoundary s.timer.bounded (if announce then [s.timer.event] else []) := by
  rw [State.makeBoundary_eq, s.settle_none h]

/-- The timer after a boundary, whatever was due before it. -/
theorem State.makeBoundary_timer (s : State) (announce : Bool) :
    (s.makeBoundary announce).timer = s.timer.bounded.pendingTaken.1 := by
  rw [State.makeBoundary_eq, State.atBoundary_timer, s.settle_same.timer]

theorem State.makeBoundary_ports (s : State) (announce : Bool) : (s.makeBoundary announce).ports = s.ports := by
  rw [State.makeBoundary_eq, State.atBoundary_ports, State.settle, State.takeWorks_ports]

theorem State.makeBoundary_pending (s : State) (announce : Bool) : (s.makeBoundary announce).pending = s.pending := by
  rw [State.makeBoundary_eq, State.atBoundary_pending, State.settle, State.takeWorks_pending]

theorem State.internalTimer_eq {s : State} (h : s.timer.refState ≠ .locked)
    (hnow : s.timer.now ≤ s.timer.lastBoundary + s.timer.period) :
    s.internalTimer = (s.setTimer (s.timer.at (s.timer.lastBoundary + s.timer.period))).makeBoundary false := by
  unfold State.internalTimer
  rw [max_eq_right hnow]
  cases hstate : s.timer.refState with
  | locked => exact absurd hstate h
  | off => rfl
  | seeking => rfl
  | lost => rfl

/-- The timer at the boundary P after the last one (R2, R5). -/
def Timer.ranOut (t : Timer) : Timer :=
  { t with
    frame := t.frame + 1, lastBoundary := t.lastBoundary + t.period, now := t.lastBoundary + t.period, fsync := true }

theorem exec_internalTimer {s : State} (h : s.timer.refState ≠ .locked) (order : List Work) :
    exec (.internalTimerRunsOut order) s = .next (s.internalTimer.takeWorks order) :=
  congrArg Host.Outcome.next (if_neg h)

/-- The internal timer's boundary with nothing due before it (R5, R14). -/
theorem State.internalTimer_idle {s : State} (h : s.timer.refState ≠ .locked) (hdue : s.due = [])
    (hnow : s.timer.now ≤ s.timer.lastBoundary + s.timer.period) : s.internalTimer = s.atBoundary s.timer.ranOut [] := by
  rw [State.internalTimer_eq h hnow, State.makeBoundary_idle (s := s.setTimer (s.timer.at _)) hdue]
  rfl

/-- Settles O6. -/
theorem internalTimerMakesTheBoundary : Obligations.InternalTimerMakesTheBoundary := by
  intro s order b made
  refine ⟨fun h hnow hpending => ⟨⟨_, exec_internalTimer h order, ?_, ?_, ?_⟩, fun hdue => ?_⟩, fun h => ?_⟩
  · rw [(State.takeWorks_same _ order).timer, State.internalTimer_eq h hnow, State.makeBoundary_timer]
    exact congrArg Prod.fst (Timer.pendingTaken_quiet (t := made) hpending)
  · rw [State.takeWorks_ports, State.internalTimer_eq h hnow, State.makeBoundary_ports]
    rfl
  · rw [State.takeWorks_pending, State.internalTimer_eq h hnow, State.makeBoundary_pending]
    rfl
  · rw [exec_internalTimer h, State.internalTimer_idle h hdue hnow, State.atBoundary_quiet s (made := s.timer.ranOut) hpending]
    rfl
  · exact congrArg Host.Outcome.next (if_pos h)

/-! ## TIMING as a work of the boundary (R17) -/

theorem State.takeWorks_append (s : State) (l k : List Work) : s.takeWorks (l ++ k) = (s.takeWorks l).takeWorks k :=
  List.foldl_append

theorem State.takeWork_timing {s : State} (h : Work.timing ∈ s.due) : s.takeWork .timing = s.closeLane.timingsTaken := by
  rw [State.takeWork_due h nofun]
  show (s.closeLane.dropWork .timing).raiseTimings = _
  rw [State.raiseTimings_eq]
  rfl

/-- A row that makes a boundary takes the works it is given, one after another. -/
theorem exec_takes_one_more {row : List Work → Instr} {d : Nat}
    (hrow : row ∈ [Instr.internalTimerRunsOut, .substituteDeadline, .frefEdge d]) {s t : State} (hdue : s.due = [])
    {order : List Work} (h : exec (row order) s = .next t) (w : Work) :
    exec (row (order ++ [w])) s = .next (t.takeWork w) := by
  simp only [List.mem_cons, List.not_mem_nil, or_false] at hrow
  have hmore : ∀ u : State, u.takeWorks (order ++ [w]) = (u.takeWorks order).takeWork w := fun u => u.takeWorks_append order [w]
  have hkept : s.takeWork w = s := s.takeWork_not_due w (by rw [hdue]; nofun)
  rcases hrow with rfl | rfl | rfl
  · have ht : (if s.timer.refState = .locked then s else s.internalTimer.takeWorks order) = t := Host.Outcome.next.inj h
    refine congrArg Host.Outcome.next ?_
    rw [← ht]
    by_cases hlocked : s.timer.refState = .locked
    · rw [if_pos hlocked, if_pos hlocked, hkept]
    · rw [if_neg hlocked, if_neg hlocked, hmore]
  · have ht : (if s.timer.refState = .locked then s.substitute.takeWorks order else s) = t := Host.Outcome.next.inj h
    refine congrArg Host.Outcome.next ?_
    rw [← ht]
    by_cases hlocked : s.timer.refState = .locked
    · rw [if_pos hlocked, if_pos hlocked, hmore]
    · rw [if_neg hlocked, if_neg hlocked, hkept]
  · have ht : (s.elapse d).edge.takeWorks order = t := Host.Outcome.next.inj h
    refine congrArg Host.Outcome.next ?_
    rw [← ht, hmore]

/-- A step on an empty queue takes TIMING before the other works due (log entries 1, 4). -/
theorem State.idle_timing {s : State} (h : Work.timing ∈ s.due) : s.idle = s.takeWork .timing := by
  have hfind : (boundaryWorks true).find? (fun w => s.due.contains w) = some .timing := by
    rw [show boundaryWorks true = Work.timing :: (boundaryWorks true).tail from rfl, List.find?_cons]
    simp [h]
  unfold State.idle
  rw [hfind]

theorem step_idle {s : State} (h : s.pending = []) : step s = .next s.idle := by
  unfold step
  rw [h]

/-- Settles O7: the record dropped or applied by `Timer.pendingTaken`; TIMING by `State.takeWork_timing`. -/
theorem epochBoundaryAppliesPendingTiming : Obligations.EpochBoundaryAppliesPendingTiming := by
  refine ⟨fun s r hlaw hfree hdue hepoch hr hnow => ?_, fun s t d order row hdue htiming hrow hexec => ?_,
    fun s hpending htiming => ?_⟩
  · intro b made
    have hbase : exec (.internalTimerRunsOut []) s = .next (s.atBoundary s.timer.ranOut []) := by
      rw [exec_internalTimer hfree, State.internalTimer_idle hfree hdue hnow]
      rfl
    have hring : s.timer.ranOut.frame.toNat % 16 = 0 := hepoch
    have hworks : boundaryWorks (s.timer.ranOut.frame.toNat % 16 == 0) = boundaryWorks true := by rw [hring]; rfl
    refine ⟨fun hsame => hbase.trans (congrArg Host.Outcome.next ?_), fun hnew => ?_⟩
    · have hdropped : s.timer.ranOut.pendingTaken = (made, []) := Timer.pendingTaken_dropped hr hring hsame
      unfold State.atBoundary
      rw [hdropped, hworks]
      simp only [List.append_nil, ite_self]
      rw [PerStation.map_same]
      rfl
    · intro ref new
      obtain ⟨-, hoff, -, hcounts, -⟩ := hlaw
      have happlied : s.timer.ranOut.pendingTaken = (new, [.timing r.period r.mode ref]) :=
        Timer.pendingTaken_applied (t := s.timer.ranOut) hr hring hnew fun hmode => ⟨hoff.mpr hmode, hcounts hmode⟩
      refine hbase.trans (congrArg Host.Outcome.next ?_)
      unfold State.atBoundary
      rw [happlied, hworks]
      rfl
  · rw [← State.takeWork_timing htiming]
    exact exec_takes_one_more hrow hdue hexec .timing
  · rw [step_idle hpending, State.idle_timing htiming, State.takeWork_timing htiming]

end Sys2Proof.Machine
end

section
/-! SUPPORT. The lease countdown and the acknowledgement countdown of a boundary. -/

namespace Sys2Proof.Machine

/-! ## A boundary with one work taken at it -/

/-- With nothing due and no lane work half done, a boundary of the internal timer at which no record comes due. -/
structure State.Quiet (s : State) : Prop where
  free : s.timer.refState ≠ .locked
  none : s.due = []
  lane : s.lane.phase = .transferStep
  soon : s.timer.now ≤ s.timer.lastBoundary + s.timer.period
  kept : s.timer.ranOut.quiet

/-- The state at that boundary, before any of its works. -/
def State.madeBoundary (s : State) : State :=
  (s.setTimer s.timer.ranOut).setDue (boundaryWorks (s.timer.ranOut.frame.toNat % 16 == 0))

theorem State.Quiet.internalTimer {s : State} (h : s.Quiet) (order : List Work) :
    exec (.internalTimerRunsOut order) s = .next (s.madeBoundary.takeWorks order) := by
  rw [exec_internalTimer h.free, State.internalTimer_idle h.free h.none h.soon, State.atBoundary_quiet s h.kept]
  rfl

theorem State.takeWorks_one (s : State) (w : Work) : s.takeWorks [w] = s.takeWork w := rfl

/-- One work taken with no lane work half done. -/
theorem State.takeWork_quiet {s : State} {w : Work} (hdue : w ∈ s.due) (hlane : w ≠ .lane)
    (hphase : s.lane.phase = .transferStep) : s.takeWork w = (s.dropWork w).doWork w := by
  rw [State.takeWork_due hdue hlane, s.closeLane_quiet hphase]

/-! ## The lease countdown (R25) -/

theorem State.leaseCountdown_running {s : State} {n : Station} (hin : s.joined n = true)
    (hk : 2 ≤ (s.station n).leaseCounter) (hlow : (s.station n).leaseCounter ≠ 9) :
    s.leaseCountdown n = s.setStation n { s.station n with leaseCounter := (s.station n).leaseCounter - 1 } := by
  have hstate : (s.station n).state = .joined := by simpa [State.joined] using hin
  refine (if_pos hstate).trans ((if_neg (by omega)).trans (if_neg ?_))
  simp only [Config.leaseLowAt]
  omega

theorem State.leaseCountdown_low {s : State} {n : Station} (hin : s.joined n = true)
    (hk : (s.station n).leaseCounter = 9) :
    s.leaseCountdown n = (s.setStation n { s.station n with leaseCounter := (s.station n).leaseCounter - 1 }).told
      (fun m => m = n) s.stamp (.leaseLow 8) := by
  have hstate : (s.station n).state = .joined := by simpa [State.joined] using hin
  have hpresent : (s.setStation n { s.station n with leaseCounter := (s.station n).leaseCounter - 1 }).present n = true := by
    simp [State.setStation_present, hstate]
  refine (if_pos hstate).trans ((if_neg (by omega)).trans ((if_pos ?_).trans ?_))
  · simp only [Config.leaseLowAt, hk]
  · exact State.raise_told hpresent _ _

theorem State.leaseCountdown_other {s : State} {n : Station} (hout : s.joined n = false) : s.leaseCountdown n = s := by
  have hstate : (s.station n).state ≠ .joined := by simpa [State.joined] using hout
  exact if_neg hstate

theorem lease_mem_boundaryWorks (n : Station) (epoch : Bool) : Work.lease n ∈ boundaryWorks epoch := by
  cases n <;> cases epoch <;> decide

theorem ack_mem_boundaryWorks (epoch : Bool) : Work.ack ∈ boundaryWorks epoch := by cases epoch <;> decide

/-- Settles O16. -/
theorem leaseCountdownAtABoundary : Obligations.LeaseCountdownAtABoundary := by
  intro s n hfree hdue hphase hnow hpending b made rest k counted
  have hquiet : s.Quiet := ⟨hfree, hdue, hphase, hnow, hpending⟩
  have hexec : exec (.internalTimerRunsOut [.lease n]) s = .next ((made.setDue rest).leaseCountdown n) := by
    rw [hquiet.internalTimer, State.takeWorks_one, State.takeWork_quiet (s := s.madeBoundary)
      (w := .lease n) (lease_mem_boundaryWorks n _) nofun hphase]
    rfl
  refine ⟨fun hin hk hne => hexec.trans (congrArg Host.Outcome.next ?_),
    fun hin hk => hexec.trans (congrArg Host.Outcome.next ?_), fun hout => hexec.trans (congrArg Host.Outcome.next ?_)⟩
  · exact (State.leaseCountdown_running (s := made.setDue rest) hin hk hne).trans rfl
  · exact (State.leaseCountdown_low (s := made.setDue rest) hin hk).trans rfl
  · exact State.leaseCountdown_other (s := made.setDue rest) hout

/-! ## The acknowledgement countdown (R144) -/

theorem State.ackCountdown_noted (s : State) : s.ackCountdown =
    (s.setAcks (s.acks.map (fun _ l => (l.filter (fun a => !a.expires s.stamp)).map (AckEntry.lowered s.stamp)))).noted s.stamp
      (fun m => ((s.acks.get m).filter (fun a => a.expires s.stamp)).map (fun a => Event.unacked a.seq a.tag .timeout)) := by
  have hpairs : stations.flatMap (fun n =>
      ((s.acks.get n).filter (fun a => a.expires s.stamp)).map (fun a => (n, Event.unacked a.seq a.tag .timeout))) =
      stations.flatMap (fun n => (((s.acks.get n).filter (fun a => a.expires s.stamp)).map
        (fun a => Event.unacked a.seq a.tag .timeout)).map (fun e => (n, e))) := by
    simp only [List.map_map, Function.comp_def]
  rw [State.ackCountdown, State.raiseAll_noted, hpairs]
  congr 1
  funext m
  rw [eventsFor_stations m stations stations_nodup, if_pos (mem_stations m)]

theorem State.ackExpiryDue_iff (s : State) :
    s.ackExpiryDue = true ↔ ∃ n, ∃ a ∈ s.acks.get n, a.expires s.stamp = true := by
  simp [State.ackExpiryDue, mem_stations]

/-- Settles O44. -/
theorem ackTimeoutCountsDown : Obligations.AckTimeoutCountsDown := by
  unfold Obligations.AckTimeoutCountsDown
  intro expired lower counted
  have hexpired : ∀ st a, AckEntry.expires st a = expired st a := fun st a => by
    simp only [AckEntry.expires, expired]
    cases a.state <;> simp
  have hlower : ∀ st a, AckEntry.lowered st a = lower st a := fun st a => by
    simp only [AckEntry.lowered, lower]
    cases a.state with
    | delivered r d => by_cases h : d = st <;> simp [h]
    | queued => rfl
    | inFlight => rfl
  have hcounted : ∀ s : State, s.ackCountdown = counted s s.stamp := fun s => by
    rw [State.ackCountdown_noted]
    simp only [hexpired, funext (hlower _)]
    rfl
  have hreached : ∀ s : State, s.ackExpiryDue = true ↔ ∃ n, ∃ a ∈ s.acks.get n, expired (stampOf s.timer.frame) a = true :=
    fun s => by
      rw [State.ackExpiryDue_iff]
      simp only [hexpired]
      rfl
  refine ⟨fun s hdue hphase => ⟨fun hsome => ?_, fun hnone => ?_⟩, fun s hfree hdue hphase hnow hpending => ?_⟩
  · refine congrArg Host.Outcome.next ((if_pos (by simp [hdue, (hreached s).mpr hsome])).trans ?_)
    rw [State.takeWork_quiet hdue nofun hphase]
    exact (hcounted (s.dropWork .ack)).trans rfl
  · have hexpiry : ¬ s.ackExpiryDue = true := fun h => by
      obtain ⟨n, a, ha, hexp⟩ := (hreached s).mp h
      rw [hnone n a ha] at hexp
      cases hexp
    exact congrArg Host.Outcome.next (if_neg (by simp [hexpiry]))
  · have hquiet : s.Quiet := ⟨hfree, hdue, hphase, hnow, hpending⟩
    rw [hquiet.internalTimer, State.takeWorks_one, State.takeWork_quiet (s := s.madeBoundary)
      (ack_mem_boundaryWorks _) nofun hphase]
    exact congrArg Host.Outcome.next ((hcounted (s.madeBoundary.dropWork .ack)).trans rfl)

end Sys2Proof.Machine
end

section
/-! SUPPORT. FREF edges and the substitute deadline (R5 to R12). -/

namespace Sys2Proof.Machine

/-! ## Time passes (R2) -/

/-- The timer d microseconds later, with no boundary on the way. -/
def Timer.later (t : Timer) (d : Nat) : Timer := { t with now := t.now + d, fsync := t.fsync && d == 0 }

theorem Timer.later_zero (t : Timer) : t.later 0 = t := by simp [Timer.later]

theorem State.advance_within {s : State} {i : Nat} (h : i ≤ s.timer.deadline) (k : Nat) : State.advance k i s = s.passTo i := by
  cases k with
  | zero => rfl
  | succ k => exact if_neg (not_lt.mpr h)

theorem State.elapse_within {s : State} {d : Nat} (hdue : s.due = []) (h : s.timer.now + d ≤ s.timer.deadline) :
    s.elapse d = s.setTimer (s.timer.later d) := by
  unfold State.elapse
  by_cases hd : d = 0
  · rw [if_pos hd, hd, Timer.later_zero]
    rfl
  · have hfsync : (s.timer.now + d == s.timer.now) = (d == 0) := by
      rw [Bool.eq_iff_iff]
      simp
    rw [if_neg hd, State.advance_within h, s.passTo_quiet hdue, max_eq_right (by omega), Timer.at, hfsync]
    rfl

/-! ## An edge judged (R6 to R10) -/

theorem Timer.accepts_iff (t : Timer) (v : Nat) :
    t.accepts v = true ↔ t.period - t.period / 64 ≤ v ∧ v ≤ t.period + t.period / 64 := by
  unfold Timer.accepts Timer.tolerance
  rw [Bool.and_eq_true, decide_eq_true_eq, decide_eq_true_eq]

theorem Timer.farFromBoundary_iff (t : Timer) : t.farFromBoundary = true ↔ t.lastBoundary + t.period / 4 ≤ t.now := by
  simp [Timer.farFromBoundary]

/-- The timer once an edge now is judged to end an interval. -/
def Timer.judged (t : Timer) (v : Nat) : Timer := { t with lastInterval := v, prevEdge := some t.now }

/-- The timer once lock is gained (R8). -/
def Timer.locked (t : Timer) : Timer := { t with refState := .locked, goodCount := 0, faultCount := 0, anchor := t.now }

/-- The timer after a good edge in LOCKED (R9). -/
def Timer.held (t : Timer) : Timer := { t with faultCount := 0, anchor := t.now }

/-- The timer once lock is lost (R12). -/
def Timer.lostLock (t : Timer) : Timer := { t with faultCount := 3, refState := .lost, goodCount := 0 }

theorem Timer.fault_few {t : Timer} (h : t.faultCount < 2) : t.fault = { t with faultCount := t.faultCount + 1 } :=
  if_neg (by simp only [Config.faultLimit]; omega)

theorem Timer.fault_third {t : Timer} (h : 2 ≤ t.faultCount) : t.fault = t.lostLock :=
  if_pos (by simp only [Config.faultLimit]; omega)

section
variable {s : State} {v : Nat}

theorem State.judgedEdge_searching (h : s.timer.refState = .seeking ∨ s.timer.refState = .lost) : s.judgedEdge v =
    if s.timer.accepts v then
      if s.timer.goodCount < 3 then
        s.setTimer { s.timer.judged v with goodCount := s.timer.goodCount + 1 }
      else (s.setTimer (s.timer.judged v)).lockEdge
    else s.setTimer { s.timer.judged v with goodCount := 0 } := by
  unfold State.judgedEdge
  rcases h with h | h <;> rw [h] <;> rfl

theorem State.judgedEdge_locked (h : s.timer.refState = .locked) : s.judgedEdge v =
    if s.timer.accepts v then (s.setTimer (s.timer.judged v)).goodLockedEdge
    else (s.setTimer (s.timer.judged v)).badLockedEdge := by
  unfold State.judgedEdge
  rw [h]
  rfl

theorem State.lockEdge_far (hdue : s.due = []) (h : s.timer.lastBoundary + s.timer.period / 4 ≤ s.timer.now) :
    s.lockEdge = s.atBoundary s.timer.locked.bounded [s.timer.locked.event] :=
  (if_pos (s.timer.farFromBoundary_iff.mpr h)).trans (State.makeBoundary_idle (s := s.setTimer s.timer.locked) hdue true)

theorem State.raiseTiming_told (s : State) : s.raiseTiming = s.told s.joined s.stamp s.timer.event := s.raiseToJoined_told _ _

theorem State.lockEdge_near (h : s.timer.now < s.timer.lastBoundary + s.timer.period / 4) :
    s.lockEdge = (s.setTimer s.timer.locked).told s.joined s.stamp s.timer.locked.event :=
  (if_neg (mt s.timer.farFromBoundary_iff.mp (not_le.mpr h))).trans (State.raiseTiming_told (s.setTimer s.timer.locked))

theorem State.goodLockedEdge_far (h : s.timer.lastBoundary + s.timer.period / 4 ≤ s.timer.now) :
    s.goodLockedEdge = (s.setTimer s.timer.held).makeBoundary false := if_pos (s.timer.farFromBoundary_iff.mpr h)

theorem State.goodLockedEdge_near (h : s.timer.now < s.timer.lastBoundary + s.timer.period / 4) :
    s.goodLockedEdge = s.setTimer s.timer.held := if_neg (mt s.timer.farFromBoundary_iff.mp (not_le.mpr h))

theorem State.badLockedEdge_few (hlocked : s.timer.refState = .locked) (h : s.timer.faultCount < 2) :
    s.badLockedEdge = s.setTimer { s.timer with faultCount := s.timer.faultCount + 1 } := by
  unfold State.badLockedEdge
  rw [Timer.fault_few h]
  exact if_neg (by rw [State.setTimer_timer, hlocked]; nofun)

theorem State.badLockedEdge_third (h : 2 ≤ s.timer.faultCount) : s.badLockedEdge =
    if s.timer.lastBoundary + s.timer.period ≤ s.timer.now then
      ((s.setTimer s.timer.lostLock).told s.joined s.stamp s.timer.lostLock.event).makeBoundary false
    else (s.setTimer s.timer.lostLock).told s.joined s.stamp s.timer.lostLock.event := by
  have htold : (s.setTimer s.timer.lostLock).raiseTiming =
      (s.setTimer s.timer.lostLock).told s.joined s.stamp s.timer.lostLock.event := State.raiseTiming_told _
  unfold State.badLockedEdge
  rw [Timer.fault_third h]
  refine (if_pos rfl).trans ?_
  rw [htold]
  rfl

/-- The state in which an edge in FOLLOW is judged: lane work begun is finished, and the TIMING of the boundary taken. -/
def State.edgeReady (s : State) : State := s.closeLane.takeWork .timing

theorem State.edgeReady_timer (s : State) : s.edgeReady.timer = s.timer :=
  (State.takeWork_same _ _).timer.trans s.closeLane_timer

theorem State.edgeReady_quiet (hdue : s.due = []) (hphase : s.lane.phase = .transferStep) : s.edgeReady = s := by
  rw [State.edgeReady, s.closeLane_quiet hphase, s.takeWork_not_due .timing (by rw [hdue]; nofun)]

theorem State.edge_free (hmode : s.timer.mode = .free) : s.edge = s := by
  unfold State.edge
  rw [hmode]

theorem State.edge_first (hmode : s.timer.mode = .follow) (hprev : s.timer.prevEdge = none) :
    s.edge = s.edgeReady.setTimer { s.timer with prevEdge := some s.timer.now } := by
  have hready : s.closeLane.takeWork .timing = s.edgeReady := rfl
  unfold State.edge
  rw [hmode]
  simp only [hready, s.edgeReady_timer, hprev]

theorem State.edge_judged (hmode : s.timer.mode = .follow) {e : Nat} (hprev : s.timer.prevEdge = some e) :
    s.edge = s.edgeReady.judgedEdge (min 65535 (s.timer.now - e)) := by
  have hready : s.closeLane.takeWork .timing = s.edgeReady := rfl
  unfold State.edge
  rw [hmode]
  simp only [hready, s.edgeReady_timer, hprev, Config.maxInterval]

end

/-- An FREF edge with no boundary on the way, nothing due and no works to take. -/
theorem exec_edge_within {s : State} {d : Nat} (hdue : s.due = []) (h : s.timer.now + d ≤ s.timer.deadline) :
    exec (.frefEdge d []) s = .next (s.setTimer (s.timer.later d)).edge :=
  congrArg (fun u : State => Host.Outcome.next u.edge) (State.elapse_within hdue h)

/-- Such an edge, judged. -/
theorem exec_edge_judged {s : State} {d e : Nat} (hdue : s.due = []) (hphase : s.lane.phase = .transferStep)
    (h : s.timer.now + d ≤ s.timer.deadline) (hmode : s.timer.mode = .follow) (hprev : s.timer.prevEdge = some e) :
    exec (.frefEdge d []) s =
      .next ((s.setTimer (s.timer.later d)).judgedEdge (min 65535 (s.timer.now + d - e))) := by
  rw [exec_edge_within hdue h, State.edge_judged (s := s.setTimer (s.timer.later d)) hmode hprev,
    State.edgeReady_quiet (s := s.setTimer (s.timer.later d)) hdue hphase]
  rfl

/-- Settles O9: each case of a judged edge outside LOCKED. -/
theorem edgesOutsideLockAndTheLockEdge : Obligations.EdgesOutsideLockAndTheLockEdge := by
  refine ⟨fun s d hdue hphase hsoon => ?_, fun s d e hdue hphase hsoon hmode hstate hprev hcount => ?_⟩
  · intro i later
    refine ⟨fun hmode => ?_, fun hmode hprev => ?_, fun e hmode hprev hstate => ?_⟩
    · rw [exec_edge_within hdue hsoon, State.edge_free (s := s.setTimer (s.timer.later d)) hmode]
      rfl
    · rw [exec_edge_within hdue hsoon, State.edge_first (s := s.setTimer (s.timer.later d)) hmode hprev,
        State.edgeReady_quiet (s := s.setTimer (s.timer.later d)) hdue hphase]
      rfl
    · intro v judged good
      have hjudged := exec_edge_judged hdue hphase hsoon hmode hprev
      rw [State.judgedEdge_searching (s := s.setTimer (s.timer.later d)) hstate] at hjudged
      have haccepts := (s.timer.later d).accepts_iff v
      refine ⟨fun hgood hfew => hjudged.trans (congrArg Host.Outcome.next ?_),
        fun hbad => hjudged.trans (congrArg Host.Outcome.next ?_)⟩
      · exact (if_pos (haccepts.mpr hgood)).trans (if_pos hfew)
      · exact if_neg (mt haccepts.mp hbad)
  · intro i v hlow hhigh locked news
    have hjudged := exec_edge_judged hdue hphase hsoon hmode hprev
    rw [State.judgedEdge_searching (s := s.setTimer (s.timer.later d)) hstate] at hjudged
    have haccepts := (s.timer.later d).accepts_iff v
    have hlock : exec (.frefEdge d []) s = .next (s.setTimer ((s.timer.later d).judged v)).lockEdge :=
      hjudged.trans (congrArg Host.Outcome.next ((if_pos (haccepts.mpr ⟨hlow, hhigh⟩)).trans (if_neg (not_lt.mpr hcount))))
    refine ⟨fun hfar => hlock.trans (congrArg Host.Outcome.next ?_), fun hnear => hlock.trans (congrArg Host.Outcome.next ?_)⟩
    · exact (State.lockEdge_far (s := s.setTimer ((s.timer.later d).judged v)) hdue hfar).trans rfl
    · exact (State.lockEdge_near (s := s.setTimer ((s.timer.later d).judged v)) hnear).trans rfl

end Sys2Proof.Machine
end

section
/-! SUPPORT. Edges in LOCKED, the substitute deadline, and an edge beyond the timer's own boundary (R9 to R12). -/

namespace Sys2Proof.Machine

/-! ## The timer's own boundary on the way (log entry 2) -/

/-- The boundary is at the present instant, and in LOCKED the anchor too. -/
structure Timer.Fresh (t : Timer) : Prop where
  boundary : t.lastBoundary = t.now
  anchor   : t.refState = .locked → t.anchor = t.now

theorem Timer.Fresh.pendingTaken {t : Timer} (h : t.Fresh) : t.pendingTaken.1.Fresh ∧ t.pendingTaken.1.now = t.now := by
  obtain ⟨hboundary, hanchor⟩ := h
  unfold Timer.pendingTaken
  split
  · exact ⟨⟨hboundary, hanchor⟩, rfl⟩
  · split
    · exact ⟨⟨hboundary, hanchor⟩, rfl⟩
    · split
      · exact ⟨⟨hboundary, hanchor⟩, rfl⟩
      · simp only
        split
        · exact ⟨⟨hboundary, fun _ => hboundary⟩, rfl⟩
        · exact ⟨⟨hboundary, nofun⟩, rfl⟩
        · exact ⟨⟨hboundary, nofun⟩, rfl⟩

theorem Timer.Fresh.deadline_ahead {t : Timer} (h : t.Fresh) (hlaw : t.law) : t.now < t.deadline := by
  obtain ⟨hboundary, hanchor⟩ := h
  obtain ⟨⟨hperiod, -⟩, -⟩ := hlaw
  unfold Timer.deadline Timer.substituteDelay
  split
  · next hlocked => rw [hanchor hlocked]; omega
  · omega

/-- The timer at the substitute deadline, the fault counted (R11, R12). -/
def Timer.substituted (t : Timer) : Timer :=
  { t.at (t.anchor + (t.period + t.period / 64)) with anchor := t.anchor + (t.period + t.period / 64) }.fault

theorem Timer.deadline_locked {t : Timer} (h : t.refState = .locked) : t.deadline = t.anchor + (t.period + t.period / 64) := by
  unfold Timer.deadline
  rw [h]
  rfl

theorem Timer.deadline_free {t : Timer} (h : t.refState ≠ .locked) : t.deadline = t.lastBoundary + t.period := by
  unfold Timer.deadline
  split
  · next hlocked => exact absurd hlocked h
  · rfl

theorem State.substitute_eq {s : State} (h : s.timer.refState = .locked)
    (hnow : s.timer.now ≤ s.timer.anchor + (s.timer.period + s.timer.period / 64)) :
    s.substitute = (s.setTimer s.timer.substituted).makeBoundary (s.timer.substituted.refState == .lost) := by
  have hmax : max s.timer.now (s.timer.anchor + s.timer.substituteDelay) =
      s.timer.anchor + (s.timer.period + s.timer.period / 64) := max_eq_right hnow
  unfold State.substitute
  rw [h]
  simp only [hmax]
  rfl

theorem exec_substitute {s : State} (h : s.timer.refState = .locked) (order : List Work) :
    exec (.substituteDeadline order) s = .next (s.substitute.takeWorks order) := congrArg Host.Outcome.next (if_pos h)

theorem State.ownBoundary_locked {s : State} (h : s.timer.refState = .locked) : s.ownBoundary = s.substitute := by
  unfold State.ownBoundary
  rw [h]

theorem State.ownBoundary_free {s : State} (h : s.timer.refState ≠ .locked) : s.ownBoundary = s.internalTimer := by
  unfold State.ownBoundary
  split
  · next hlocked => exact absurd hlocked h
  · rfl

theorem Timer.fault_instants (t : Timer) : t.fault.now = t.now ∧ t.fault.anchor = t.anchor := by
  unfold Timer.fault
  split <;> exact ⟨rfl, rfl⟩

/-- The timer's own boundary is at its deadline. -/
theorem State.ownBoundary_fresh {s : State} (hnow : s.timer.now ≤ s.timer.deadline) :
    s.ownBoundary.timer.Fresh ∧ s.ownBoundary.timer.now = s.timer.deadline := by
  by_cases h : s.timer.refState = .locked
  · rw [Timer.deadline_locked h] at hnow ⊢
    obtain ⟨hnow', hanchor⟩ := Timer.fault_instants { s.timer.at (s.timer.anchor + (s.timer.period + s.timer.period / 64)) with
      anchor := s.timer.anchor + (s.timer.period + s.timer.period / 64) }
    have hfresh : s.timer.substituted.bounded.Fresh := ⟨rfl, fun _ => hanchor.trans hnow'.symm⟩
    rw [State.ownBoundary_locked h, State.substitute_eq h hnow, State.makeBoundary_timer]
    exact ⟨hfresh.pendingTaken.1, hfresh.pendingTaken.2.trans hnow'⟩
  · rw [Timer.deadline_free h] at hnow ⊢
    have hfresh : (s.timer.at (s.timer.lastBoundary + s.timer.period)).bounded.Fresh := ⟨rfl, fun hlocked => absurd hlocked h⟩
    rw [State.ownBoundary_free h, State.internalTimer_eq h hnow, State.makeBoundary_timer]
    exact ⟨hfresh.pendingTaken.1, hfresh.pendingTaken.2⟩

theorem State.Acts.timerLaw {s t : State} (h : State.Acts s t) (hs : s.timer.law) : t.timer.law :=
  h.keeps (P := fun u => u.timer.law) (State.Act.keeps_of_updates State.Update.timerLaw (fun _ _ _ _ _ hs => hs)
    (fun _ _ _ hs => hs) (fun _ _ _ _ hlaw _ hs => Timer.law_pendingTaken (hlaw hs))) hs

/-- Boundaries are more than a microsecond apart, so a limit on their number that the microseconds give does not bind. -/
theorem State.advance_limit {i : Nat} : ∀ (j k : Nat) (s : State), s.timer.law → s.timer.now < s.timer.deadline →
    i ≤ s.timer.now + j + 1 → i ≤ s.timer.now + k + 1 → State.advance j i s = State.advance k i s := by
  intro j
  induction j with
  | zero =>
    intro k s _ hahead hj _
    rw [State.advance_within (by omega), State.advance_within (by omega)]
  | succ j ih =>
    intro k s hlaw hahead hj hk
    by_cases hlate : s.timer.deadline < i
    · cases k with
      | zero => omega
      | succ k =>
        obtain ⟨hfresh, hnow⟩ := State.ownBoundary_fresh hahead.le
        have hlaw' := s.ownBoundary_acts.timerLaw hlaw
        show (if s.timer.deadline < i then State.advance j i s.ownBoundary else _) =
          (if s.timer.deadline < i then State.advance k i s.ownBoundary else _)
        rw [if_pos hlate, if_pos hlate]
        exact ih k s.ownBoundary hlaw' (hfresh.deadline_ahead hlaw') (by omega) (by omega)
    · rw [State.advance_within (not_lt.mp hlate), State.advance_within (not_lt.mp hlate)]

/-- Time that passes beyond the timer's deadline is its own boundary first, and the rest of the time. -/
theorem State.elapse_beyond {s : State} {d : Nat} (hlaw : s.timer.law) (hnow : s.timer.now ≤ s.timer.deadline)
    (h : s.timer.deadline < s.timer.now + d) : s.elapse d = s.ownBoundary.elapse (s.timer.now + d - s.timer.deadline) := by
  obtain ⟨hfresh, hinstant⟩ := State.ownBoundary_fresh hnow
  have hlaw' := s.ownBoundary_acts.timerLaw hlaw
  obtain ⟨k, rfl⟩ : ∃ k, d = k + 1 := ⟨d - 1, by omega⟩
  have hrest : s.timer.now + (k + 1) - s.timer.deadline ≠ 0 := by omega
  have hend : s.ownBoundary.timer.now + (s.timer.now + (k + 1) - s.timer.deadline) = s.timer.now + (k + 1) := by omega
  have hfirst : s.elapse (k + 1) = State.advance k (s.timer.now + (k + 1)) s.ownBoundary := (if_neg (by omega)).trans (if_pos h)
  have hthen : s.ownBoundary.elapse (s.timer.now + (k + 1) - s.timer.deadline) =
      State.advance (s.timer.now + (k + 1) - s.timer.deadline) (s.timer.now + (k + 1)) s.ownBoundary :=
    (if_neg hrest).trans (by rw [hend])
  rw [hfirst, hthen]
  exact State.advance_limit _ _ _ hlaw' (hfresh.deadline_ahead hlaw') (by omega) (by omega)

/-! ## Edges in LOCKED (R9, R10, R12) -/

/-- Settles O10: each case of a judged edge in LOCKED, and an edge beyond the deadline by `State.elapse_beyond`. -/
theorem edgesInLock : Obligations.EdgesInLock := by
  refine ⟨fun s d e hdue hphase hsoon hmode hstate hprev => ?_, fun s d order hlaw hdue hnow hbeyond => ?_⟩
  · intro i v good judged lost told
    have hjudged := exec_edge_judged hdue hphase hsoon hmode hprev
    rw [State.judgedEdge_locked (s := s.setTimer (s.timer.later d)) hstate] at hjudged
    have haccepts : (s.timer.later d).accepts v = true ↔ good := (s.timer.later d).accepts_iff v
    have hgood : good → exec (.frefEdge d []) s = .next (s.setTimer judged).goodLockedEdge := fun h =>
      hjudged.trans (congrArg Host.Outcome.next (if_pos (haccepts.mpr h)))
    have hbad : ¬ good → exec (.frefEdge d []) s = .next (s.setTimer judged).badLockedEdge := fun h =>
      hjudged.trans (congrArg Host.Outcome.next (if_neg (mt haccepts.mp h)))
    refine ⟨fun h hfar => (hgood h).trans (congrArg Host.Outcome.next ?_),
      fun h hnear => (hgood h).trans (congrArg Host.Outcome.next ?_),
      fun h hfew => (hbad h).trans (congrArg Host.Outcome.next ?_),
      fun h hthird hnear => (hbad h).trans (congrArg Host.Outcome.next ?_),
      fun h hthird hfar => (hbad h).trans (congrArg Host.Outcome.next ?_)⟩
    · rw [State.goodLockedEdge_far (s := s.setTimer judged) hfar]
      exact (State.makeBoundary_idle (s := s.setTimer judged.held) hdue false).trans rfl
    · exact State.goodLockedEdge_near (s := s.setTimer judged) hnear
    · exact State.badLockedEdge_few (s := s.setTimer judged) hstate hfew
    · exact (State.badLockedEdge_third (s := s.setTimer judged) hthird).trans (if_neg (not_le.mpr hnear))
    · refine (State.badLockedEdge_third (s := s.setTimer judged) hthird).trans ((if_pos hfar).trans ?_)
      exact (State.makeBoundary_idle (s := told) hdue false).trans rfl
  · intro own
    refine ⟨s.ownBoundary, ?_, (State.ownBoundary_fresh hnow).2, ?_⟩
    · by_cases h : s.timer.refState = .locked
      · rw [State.ownBoundary_locked h]
        simp only [own, if_pos h]
        exact exec_substitute h []
      · rw [State.ownBoundary_free h]
        simp only [own, if_neg h]
        exact exec_internalTimer h []
    · exact congrArg (fun u : State => Host.Outcome.next (u.edge.takeWorks order)) (State.elapse_beyond hlaw hnow hbeyond)

end Sys2Proof.Machine
end

section
/-! SUPPORT. The substitute deadline as a command, alone and with a good edge at the same instant (R11, R12). -/

namespace Sys2Proof.Machine

theorem Timer.substituted_few {t : Timer} (h : t.faultCount < 2) : t.substituted =
    { t.at (t.anchor + (t.period + t.period / 64)) with
      anchor := t.anchor + (t.period + t.period / 64), faultCount := t.faultCount + 1 } := Timer.fault_few h

theorem Timer.substituted_third {t : Timer} (h : 2 ≤ t.faultCount) : t.substituted =
    ({ t.at (t.anchor + (t.period + t.period / 64)) with anchor := t.anchor + (t.period + t.period / 64) } : Timer).lostLock :=
  Timer.fault_third h

/-- The edge of a hub in LOCKED, its interval accepted: the timer afterwards, whatever works are due. -/
theorem State.edge_good_timer {s : State} (hmode : s.timer.mode = .follow) (hstate : s.timer.refState = .locked) {e : Nat}
    (hprev : s.timer.prevEdge = some e) (hgood : s.timer.accepts (min 65535 (s.timer.now - e)) = true) :
    s.edge.timer =
      if s.timer.lastBoundary + s.timer.period / 4 ≤ s.timer.now then
        (s.timer.judged (min 65535 (s.timer.now - e))).held.bounded.pendingTaken.1
      else (s.timer.judged (min 65535 (s.timer.now - e))).held := by
  have hready := s.edgeReady_timer
  rw [State.edge_judged hmode hprev, State.judgedEdge_locked (by rw [hready, hstate]), hready, if_pos hgood]
  split
  · next hfar => rw [State.goodLockedEdge_far (s := s.edgeReady.setTimer (s.timer.judged (min 65535 (s.timer.now - e)))) hfar, State.makeBoundary_timer]; rfl
  · next hnear => rw [State.goodLockedEdge_near (s := s.edgeReady.setTimer (s.timer.judged (min 65535 (s.timer.now - e)))) (not_le.mp hnear)]; rfl

/-- The edge of a hub in LOST, its interval accepted and its good count 0: the timer afterwards. -/
theorem State.edge_first_good_timer {s : State} (hmode : s.timer.mode = .follow) (hstate : s.timer.refState = .lost) {e : Nat}
    (hprev : s.timer.prevEdge = some e) (hgood : s.timer.accepts (min 65535 (s.timer.now - e)) = true)
    (hcount : s.timer.goodCount = 0) :
    s.edge.timer = { s.timer.judged (min 65535 (s.timer.now - e)) with goodCount := 1 } := by
  have hready := s.edgeReady_timer
  rw [State.edge_judged hmode hprev, State.judgedEdge_searching (by rw [hready]; exact .inr hstate), hready, if_pos hgood,
    hcount]
  rfl

/-- Settles O8: the fault counted at the deadline, and the edge at its instant in either order. -/
theorem substituteDeadlineMakesTheBoundary : Obligations.SubstituteDeadlineMakesTheBoundary := by
  refine ⟨fun s => ?_, fun s e hlaw hdue hlocked hmode hprev hquiet => ?_⟩
  · intro d made
    refine ⟨fun hlocked hdue hnow => ?_, fun hfree => congrArg Host.Outcome.next (if_neg hfree)⟩
    have hbase : exec (.substituteDeadline []) s = .next (s.atBoundary s.timer.substituted.bounded
        (if s.timer.substituted.refState == .lost then [s.timer.substituted.event] else [])) := by
      rw [exec_substitute hlocked, State.substitute_eq hlocked hnow,
        State.makeBoundary_idle (s := s.setTimer s.timer.substituted) hdue]
      rfl
    refine ⟨fun hfew => hbase.trans ?_, fun hthird => hbase.trans ?_⟩
    · have hkept : ((s.timer.substituted.refState == .lost) = true) ↔ False := by
        rw [Timer.substituted_few hfew]
        simp [Timer.at, hlocked]
      rw [if_neg hkept.mp, Timer.substituted_few hfew]
      rfl
    · rw [Timer.substituted_third hthird]
      rfl
  · intro d hlow hhigh hnow hbefore
    obtain ⟨⟨hperiod, hmax⟩, -⟩ := hlaw
    have hv : min 65535 (d - e) = d - e := min_eq_right (by omega)
    have hd : s.timer.now + (d - s.timer.now) = d := by omega
    have hgood : ∀ t : Timer, t.period = s.timer.period → t.now = d → t.accepts (min 65535 (t.now - e)) = true :=
      fun t hp hn => by
        rw [hn, hv, Timer.accepts_iff, hp]
        exact ⟨hlow, hhigh⟩
    have hstays : ∀ t : Timer, t.pendingTiming = s.timer.pendingTiming → t.frame = s.timer.frame + 1 → t.pendingTaken.1 = t :=
      fun t hp hf => congrArg Prod.fst (Timer.pendingTaken_quiet (t := t) (by rw [Timer.quiet, hp, hf]; exact hquiet))
    have hedge : exec (.frefEdge (d - s.timer.now) []) s = .next (s.setTimer (s.timer.later (d - s.timer.now))).edge :=
      exec_edge_within hdue (by rw [Timer.deadline_locked hlocked, hd])
    have ht : (s.setTimer (s.timer.later (d - s.timer.now))).edge.timer =
        ((s.timer.later (d - s.timer.now)).judged (min 65535 (s.timer.now + (d - s.timer.now) - e))).held.bounded :=
      (State.edge_good_timer (s := s.setTimer (s.timer.later (d - s.timer.now))) hmode hlocked hprev (hgood _ rfl hd)).trans
        ((if_pos (show s.timer.lastBoundary + s.timer.period / 4 ≤ s.timer.now + (d - s.timer.now) by omega)).trans
          (hstays _ rfl rfl))
    have htdeadline : (s.setTimer (s.timer.later (d - s.timer.now))).edge.timer.deadline =
        d + (s.timer.period + s.timer.period / 64) := by
      rw [ht]
      refine Eq.trans (Timer.deadline_locked ?_) ?_
      · exact hlocked
      · exact congrArg (· + (s.timer.period + s.timer.period / 64)) hd
    have hu : s.substitute.timer = s.timer.substituted.bounded := by
      rw [State.substitute_eq hlocked hnow, State.makeBoundary_timer]
      by_cases hfew : s.timer.faultCount < 2
      · rw [Timer.substituted_few hfew]
        exact hstays _ rfl rfl
      · rw [Timer.substituted_third (not_lt.mp hfew)]
        exact hstays _ rfl rfl
    have hzero : exec (.frefEdge 0 []) s.substitute = .next s.substitute.edge := rfl
    refine ⟨_, _, _, hedge, exec_substitute hlocked [], hzero, ?_⟩
    rw [htdeadline, ht]
    by_cases hfew : s.timer.faultCount < 2
    · rw [Timer.substituted_few hfew] at hu
      have hv : s.substitute.edge.timer = (s.substitute.timer.judged (min 65535 (s.substitute.timer.now - e))).held := by
        have hnear : ¬ d + s.timer.period / 4 ≤ d := by omega
        exact (State.edge_good_timer (by rw [hu]; exact hmode) (by rw [hu]; exact hlocked) (by rw [hu]; exact hprev)
          (by rw [hu]; exact hgood _ rfl rfl)).trans (if_neg (by rw [hu]; exact hnear))
      rw [hv, hu]
      refine ⟨rfl, rfl, rfl, hd, rfl, rfl, fun _ => ⟨rfl, ?_⟩, fun hmany => absurd hfew (not_lt.mpr hmany)⟩
      exact Timer.deadline_locked hlocked
    · rw [Timer.substituted_third (not_lt.mp hfew)] at hu
      have hv : s.substitute.edge.timer =
          { s.substitute.timer.judged (min 65535 (s.substitute.timer.now - e)) with goodCount := 1 } :=
        State.edge_first_good_timer (by rw [hu]; exact hmode) (by rw [hu]; rfl) (by rw [hu]; exact hprev)
          (by rw [hu]; exact hgood _ rfl rfl) (by rw [hu]; rfl)
      rw [hv, hu]
      exact ⟨rfl, rfl, rfl, hd, rfl, rfl, fun h => absurd h hfew, fun _ => ⟨rfl, rfl, rfl, rfl⟩⟩

end Sys2Proof.Machine
end

section
/-! SUPPORT. RENEW, with the countdown of its station at a boundary taken first (R24, R25). -/

namespace Sys2Proof.Machine

theorem renewedToken_ne (tok : Byte) (f : FrameNumber) : renewedToken tok f ≠ tok := by
  unfold renewedToken
  split
  · bv_omega
  · next h => exact h

/-- A RENEW that its station's countdown, where one is due, leaves JOINED. -/
theorem exec_renew {s v : State} {p : Station} {tok : Byte} (h : s.selected p) (hfirst : s.countdownFirst p .renew = v)
    (hin : v.joined p = true) :
    (tok = (v.station p).token → exec (.renew p (requestFrame 0x04 [tok])) s =
      .next ((v.timingFirst.setStation p { v.timingFirst.station p with
        token := renewedToken tok v.timer.frame, leasePeriod := v.registry.leaseSetting
        leaseCounter := v.registry.leaseSetting }).replied p 0x04 [tok]
        { status := .ok, results :=
          [renewedToken tok v.timer.frame, byte v.registry.leaseSetting, byte v.registry.leaseSetting] })) ∧
    (tok ≠ (v.station p).token → exec (.renew p (requestFrame 0x04 [tok])) s =
      .next (v.timingFirst.replied p 0x04 [tok] { status := .badToken, results := [] })) := by
  have hexec := exec_request s p .renew [tok] h rfl
  have hanswer : s.answerTo p .renew [tok] = serveRenew p [tok] v.timingFirst := by
    simp only [State.answerTo, hfirst, State.passes_of_joined (r := .renew) hin nofun nofun]
    exact (if_neg (by decide)).trans (congrArg (serveRenew p [tok]) (v.readyFor_registry .renew rfl))
  rw [hanswer] at hexec
  refine ⟨fun hright => hexec.trans ?_, fun hwrong => hexec.trans ?_⟩
  · have hserve : serveRenew p [tok] v.timingFirst =
        (v.timingFirst.setStation p { v.timingFirst.station p with
          token := renewedToken tok v.timingFirst.timer.frame, leasePeriod := v.timingFirst.registry.leaseSetting
          leaseCounter := v.timingFirst.registry.leaseSetting },
         { status := .ok, results := [renewedToken tok v.timingFirst.timer.frame,
            byte v.timingFirst.registry.leaseSetting, byte v.timingFirst.registry.leaseSetting] }) :=
      if_pos (by rw [State.timingFirst_station]; exact hright)
    rw [hserve, State.timingFirst_timer, State.timingFirst_registry]
    rfl
  · have hserve : serveRenew p [tok] v.timingFirst = (v.timingFirst, { status := .badToken, results := [] }) :=
      if_neg (by rw [State.timingFirst_station]; exact hwrong)
    rw [hserve]
    rfl

/-- The countdown due at the station of a RENEW. -/
theorem State.countdownFirst_due {s : State} {p : Station} (hin : s.joined p = true) (h : Work.lease p ∈ s.due) :
    s.countdownFirst p .renew = (s.closeLane.dropWork (.lease p)).leaseCountdown p :=
  (if_pos ⟨rfl, hin⟩).trans (State.takeWork_due h nofun)

/-- The TIMING of a boundary, once the lane's work begun is known to be finished. -/
theorem State.timingFirst_closed {s v : State} (hphase : v.lane.phase = .transferStep)
    (hdue : Work.timing ∈ v.due ↔ Work.timing ∈ s.due) :
    v.timingFirst = if Work.timing ∈ s.due then v.timingsTaken else v := by
  unfold State.timingFirst
  simp only [v.closeLane_quiet hphase, hdue]

theorem State.timingFirst_closeLane (s : State) :
    s.timingFirst = if Work.timing ∈ s.due then s.closeLane.timingsTaken else s.closeLane := by
  unfold State.timingFirst
  simp only [s.mem_closeLane_due (w := .timing) nofun]

/-- Settles O15: the token, the RENEW by whether a countdown of its station is due, and the lapse. -/
theorem renewRestoresTheLease : Obligations.RenewRestoresTheLease := by
  intro s p tok hsel hin w k counted v u low new period
  have hjoined : (s.closeLane.dropWork (.lease p)).joined p = true := (congrFun (State.closeLane_joined s) p).trans hin
  have hstation : (s.closeLane.dropWork (.lease p)).station p = s.station p := s.closeLane_station p
  refine ⟨renewedToken_ne tok s.timer.frame, fun hkept => ?_, fun hdue hone hlaw => ?_⟩
  · by_cases hdue : Work.lease p ∈ s.due
    · have hk : 2 ≤ k := hkept.resolve_left (not_not_intro hdue)
      have hkeeps : v.registry = counted.registry ∧ v.timer = counted.timer ∧ v.lane = counted.lane ∧ v.due = counted.due := by
        refine (congrArg (fun x : State => x.registry = counted.registry ∧ x.timer = counted.timer ∧
          x.lane = counted.lane ∧ x.due = counted.due) (if_neg (not_not_intro hdue))).mpr ?_
        split
        · exact ⟨rfl, rfl, rfl, rfl⟩
        · exact ⟨rfl, rfl, rfl, rfl⟩
      have hfirst : s.countdownFirst p .renew = v := by
        refine (State.countdownFirst_due hin hdue).trans (Eq.trans ?_ (if_neg (not_not_intro hdue)).symm)
        have hcounter : ((s.closeLane.dropWork (.lease p)).station p).leaseCounter = k := by rw [hstation]
        by_cases hlow : k = 9
        · rw [if_pos hlow, State.leaseCountdown_low hjoined (hcounter.trans hlow), hstation, State.stamp,
            show (s.closeLane.dropWork (.lease p)).timer = s.timer from s.closeLane_timer]
          rfl
        · rw [if_neg hlow, State.leaseCountdown_running hjoined (hcounter ▸ hk) (by rw [hcounter]; exact hlow), hstation]
          rfl
      obtain ⟨hregistry, htimer, hlane, hworks⟩ := hkeeps
      have hvstation : v.station p = { s.station p with leaseCounter := k - 1 } := by
        rw [State.station, hregistry]
        exact PerStation.get_set_same _ _ _
      have hvin : v.joined p = true := by
        have hstate : (s.station p).state = .joined := by simpa [State.joined] using hin
        simp [State.joined, hvstation, hstate]
      have hu : v.timingFirst = u := by
        refine State.timingFirst_closed (by rw [hlane]; exact s.closeLane_phase) ?_
        rw [hworks]
        exact (List.mem_erase_of_ne (show Work.timing ≠ Work.lease p from nofun)).trans (s.mem_closeLane_due (by decide))
      have hsetting : v.registry.leaseSetting = s.registry.leaseSetting := by
        rw [hregistry]
        show s.closeLane.registry.leaseSetting = s.registry.leaseSetting
        rw [State.closeLane_registry]
      have hrenew := exec_renew hsel hfirst hvin (tok := tok)
      rw [hu, hsetting, show v.timer = s.timer from htimer.trans s.closeLane_timer, hvstation] at hrenew
      exact hrenew
    · have hu : u = s.timingFirst := by
        rw [State.timingFirst_closeLane]
        exact congrArg (fun x : State => if Work.timing ∈ s.due then x.timingsTaken else x) (if_pos hdue)
      rw [hu]
      exact exec_renew hsel (s.countdownFirst_not_due p .renew hdue) hin
  · have hlapse : s.countdownFirst p .renew =
        (w.setDue (w.due.erase (.lease p))).withoutStation p .lapsed .leaseExpired (stampOf s.timer.frame) := by
      rw [State.countdownFirst_due hin hdue]
      refine (State.leaseCountdown_lapse ?_ ?_).trans ?_
      · rw [hstation]
        simpa [State.joined] using hin
      · rw [hstation]
        exact hone
      · rw [State.depart_eq (s.closeLane.dropWork (.lease p)) _ _ _ _ (.inr rfl) (State.membershipLaw_sources hlaw), State.stamp,
          show (s.closeLane.dropWork (.lease p)).timer = s.timer from s.closeLane_timer]
        rfl
    have hstate : ((s.countdownFirst p .renew).station p).state = .lapsed := by
      rw [hlapse]
      exact congrArg StationRec.state (PerStation.get_set_same _ _ _)
    have hrefused : (s.countdownFirst p .renew).registryRefusal p .renew = some .lapsed := by
      unfold State.registryRefusal
      rw [hstate]
      rfl
    rw [← hlapse]
    have hexec := exec_request s p .renew [tok] hsel rfl
    have hanswer : s.answerTo p .renew [tok] = (s.countdownFirst p .renew, refuse .lapsed) := by
      simp only [State.answerTo, hrefused]
    rw [hanswer] at hexec
    exact hexec

end Sys2Proof.Machine
end

section
/-! SUPPORT. The check byte and the port's own refusals (R162, R164), requests that are cut short, and responses clocked out
(R165 to R167). -/

namespace Sys2Proof.Machine

/-! ## The check byte is linear (R162) -/

theorem crcBit_eq (reg : Byte) (bit : Bool) :
    crcBit reg bit = (reg <<< 1) ^^^ (if (reg.getLsbD 7 != bit) then Config.crcPolynomial else 0) := by
  unfold crcBit
  split
  · rfl
  · exact (BitVec.xor_zero).symm

theorem crcBit_xor (r t : Byte) (b c : Bool) : crcBit (r ^^^ t) (b ^^ c) = crcBit r b ^^^ crcBit t c := by
  have hsel : ∀ x y b c : Bool, (if (x ^^ y) != (b ^^ c) then Config.crcPolynomial else (0 : Byte)) =
      (if x != b then Config.crcPolynomial else 0) ^^^ (if y != c then Config.crcPolynomial else 0) := by decide
  simp only [crcBit_eq, BitVec.getLsbD_xor, BitVec.shiftLeft_xor_distrib, hsel]
  ac_rfl

theorem byteBits_xor (x y : Byte) : byteBits (x ^^^ y) = List.zipWith xor (byteBits x) (byteBits y) := by
  simp [byteBits]

theorem crcBits_xor : ∀ (l k : List Bool) (r t : Byte), l.length = k.length →
    (List.zipWith xor l k).foldl crcBit (r ^^^ t) = l.foldl crcBit r ^^^ k.foldl crcBit t := by
  intro l
  induction l with
  | nil =>
    intro k r t h
    obtain rfl := List.length_eq_zero_iff.mp h.symm
    rfl
  | cons b l ih =>
    intro k r t h
    cases k with
    | nil => cases h
    | cons c k =>
      simp only [List.zipWith_cons_cons, List.foldl_cons, crcBit_xor]
      exact ih k _ _ (Nat.succ.inj h)

theorem crcByte_xor (r t x y : Byte) : crcByte (r ^^^ t) (x ^^^ y) = crcByte r x ^^^ crcByte t y := by
  unfold crcByte
  rw [byteBits_xor, crcBits_xor (byteBits x) (byteBits y) r t rfl]

theorem crcBit_false_eq_zero : ∀ d : Byte, crcBit d false = 0 → d = 0 := by decide +kernel

theorem crcByte_zero_eq_zero {d : Byte} (h : crcByte d 0 = 0) : d = 0 := by
  have hbits : ∀ (n : Nat) (d : Byte), (List.replicate n false).foldl crcBit d = 0 → d = 0 := by
    intro n
    induction n with
    | zero => exact fun d h => h
    | succ n ih => exact fun d h => crcBit_false_eq_zero d (ih _ h)
  exact hbits 8 d h

theorem crcByte_register_inj {r t x : Byte} (h : crcByte r x = crcByte t x) : r = t := by
  have hzero : crcByte (r ^^^ t) 0 = 0 := by
    have hlinear := crcByte_xor r t x x
    rwa [h, BitVec.xor_self, BitVec.xor_self] at hlinear
  exact BitVec.xor_eq_zero_iff.mp (crcByte_zero_eq_zero hzero)

theorem crcBytes_register_inj : ∀ {l : List Byte} {r t : Byte}, l.foldl crcByte r = l.foldl crcByte t → r = t := by
  intro l
  induction l with
  | nil => exact fun h => h
  | cons b l ih => exact fun h => crcByte_register_inj (ih h)

/-- One wrong bit changes the register. -/
theorem crcByte_wrong_bit (r x : Byte) {i : Nat} (hi : i < 8) : crcByte r (x ^^^ BitVec.twoPow 8 i) ≠ crcByte r x := by
  have hbit : ∀ i < 8, crcByte 0 (BitVec.twoPow 8 i) ≠ 0 := by decide +kernel
  intro h
  have hlinear := crcByte_xor r r (x ^^^ BitVec.twoPow 8 i) x
  rw [h, BitVec.xor_self, BitVec.xor_self, BitVec.xor_comm x, BitVec.xor_assoc, BitVec.xor_self, BitVec.xor_zero] at hlinear
  exact hbit i hi hlinear

/-- A list of bytes with one wrong bit has another check byte. -/
theorem crc_wrong_bit (a b : List Byte) (x : Byte) {i : Nat} (hi : i < 8) :
    crc (a ++ (x ^^^ BitVec.twoPow 8 i) :: b) ≠ crc (a ++ x :: b) := by
  rw [crc_append, crc_append]
  exact fun h => crcByte_wrong_bit _ x hi (crcBytes_register_inj h)

theorem flip_ne (x : Byte) {i : Nat} (hi : i < 8) : x ^^^ BitVec.twoPow 8 i ≠ x := by
  have hbit : ∀ i < 8, BitVec.twoPow 8 i ≠ 0 := by decide
  intro h
  have hcancel := congrArg (x ^^^ ·) h
  simp only [← BitVec.xor_assoc, BitVec.xor_self, BitVec.zero_xor] at hcancel
  exact hbit i hi hcancel

/-! ## The port's refusals (R164) -/

theorem State.clockFrame_refused {s : State} {p : Station} {code : Byte} {f : Frame} {st : Status} (h : s.selected p)
    (hn : f.operands.length ≤ 255)
    (hst : portCheck (f.check == (requestFrame code f.operands).check) code f.operands.length = .inr st) :
    s.clockFrame p code f = s.replied p code f.operands { status := st, results := [] } := by
  rw [State.clockFrame_selected s p code f h hn]
  have htake : s.takeRequest p (f.check == crc (code :: byte f.operands.length :: f.operands)) code f.operands.length
      (f.operands.take Config.operandsKept) = (s, refuse st) := by
    have hst' : portCheck (f.check == crc (code :: byte f.operands.length :: f.operands)) code f.operands.length = .inr st := hst
    simp only [State.takeRequest, hst']
  rw [htake]
  rfl

theorem portCheck_wrong {c d : Byte} (h : c ≠ d) (code : Byte) (n : Nat) : portCheck (c == d) code n = .inr .badCheck := by
  rw [portCheck, beq_false_of_ne h]
  rfl

theorem portCheck_unknown (c : Byte) {code : Byte} (h : Request.ofCode code = none) (n : Nat) :
    portCheck (c == c) code n = .inr .badRequest := by simp [portCheck, h]

theorem portCheck_length (c : Byte) {r : Request} {n : Nat} (h : r.lengthOk n = false) :
    portCheck (c == c) r.code n = .inr .badLength := by simp [portCheck, Request.ofCode_code, h]

theorem exec_instr (r : Request) (p : Station) (f : Frame) (s : State) :
    exec (r.instr p f) s = .next (s.clockFrame p r.code f) := by cases r <;> rfl

/-- Settles O48, by the linearity of the check byte. -/
theorem checkByteCatchesOneWrongBit : Obligations.CheckByteCatchesOneWrongBit := by
  refine ⟨by decide +kernel, fun s p code x y a b i hsel hi hlen hy => ?_⟩
  intro good
  have hlength : ∀ z : Byte, (a ++ z :: b).length ≤ 255 := fun z => by
    simp only [List.length_append, List.length_cons]
    omega
  refine ⟨congrArg Host.Outcome.next (State.clockFrame_refused hsel (hlength y) (portCheck_wrong ?_ code _)),
    congrArg Host.Outcome.next (State.clockFrame_refused hsel (hlength x) (portCheck_wrong (flip_ne good.check hi) code _))⟩
  have hsame : (a ++ x :: b).length = (a ++ y :: b).length := by simp only [List.length_append, List.length_cons]
  show crc (code :: byte (a ++ x :: b).length :: (a ++ x :: b)) ≠ crc (code :: byte (a ++ y :: b).length :: (a ++ y :: b))
  rw [hsame, hy]
  exact (crc_wrong_bit (code :: byte _ :: a) b x hi).symm

/-- Settles O49: each check of the port in turn. -/
theorem portChecksInOrder : Obligations.PortChecksInOrder := by
  intro s p ops hsel hlen
  refine ⟨fun code chk hwrong => ?_, fun r chk hwrong => ?_, fun code hcode => ?_, fun r hr => ?_⟩
  · exact congrArg Host.Outcome.next (State.clockFrame_refused hsel hlen (portCheck_wrong hwrong code _))
  · rw [exec_instr, State.clockFrame_refused hsel hlen (portCheck_wrong hwrong r.code _)]
  · refine congrArg Host.Outcome.next (State.clockFrame_refused hsel hlen ?_)
    have hnone : Request.ofCode code = none := by
      refine List.find?_eq_none.mpr fun r _ => ?_
      rw [beq_iff_eq]
      exact hcode r
    exact portCheck_unknown _ hnone _
  · rw [exec_instr, State.clockFrame_refused (f := requestFrame r.code ops) hsel hlen (portCheck_length _ hr)]
    rfl

end Sys2Proof.Machine
end

section
/-! SUPPORT. Requests that are cut short, and responses clocked out (R165 to R167). -/

namespace Sys2Proof.Machine

/-! ## Bytes and bits -/

theorem byteBits_length (b : Byte) : (byteBits b).length = 8 := rfl

theorem bytesBits_length (l : List Byte) : (bytesBits l).length = 8 * l.length := by
  simp [bytesBits, byteBits_length, Nat.mul_comm]

theorem bytesBits_append (l k : List Byte) : bytesBits (l ++ k) = bytesBits l ++ bytesBits k := List.flatMap_append

/-- A proper initial part of the bits of some bytes is whole bytes and fewer than eight bits more. -/
theorem bytesBits_short {l : List Byte} {sdi : List Bool} (h : sdi <+: bytesBits l) (hlt : sdi.length < (bytesBits l).length) :
    ∃ k, ∃ rest : List Bool, k < l.length ∧ rest.length < 8 ∧ sdi = bytesBits (l.take k) ++ rest := by
  rw [bytesBits_length] at hlt
  have hk : (bytesBits (l.take (sdi.length / 8))).length = 8 * (sdi.length / 8) := by
    rw [bytesBits_length, List.length_take, min_eq_left (by omega)]
  refine ⟨sdi.length / 8, (bytesBits (l.drop (sdi.length / 8))).take (sdi.length % 8), by omega, ?_, ?_⟩
  · exact lt_of_le_of_lt (List.length_take_le _ _) (Nat.mod_lt _ (by omega))
  · have hbits : bytesBits l = bytesBits (l.take (sdi.length / 8)) ++ bytesBits (l.drop (sdi.length / 8)) := by
      rw [← bytesBits_append, List.take_append_drop]
    have hsdi : sdi = (bytesBits l).take sdi.length := by
      obtain ⟨rest, hrest⟩ := h
      rw [← hrest, List.take_left]
    rw [hbits, List.take_append, hk, List.take_of_length_le (by rw [hk]; omega)] at hsdi
    rwa [show sdi.length - 8 * (sdi.length / 8) = sdi.length % 8 by omega] at hsdi

/-! ## A request in progress -/

/-- The port holds whole bytes of a request: its operand bytes so far of the n that its length byte names. -/
structure Port.Gathers (q : Port) (n k : Nat) : Prop where
  bits   : q.bits = []
  length : q.length.toNat = n
  count  : q.opCount = k
  phase  : q.phase = if k = n then .check else .operands

theorem Port.Gathers.receiving {q : Port} {n k : Nat} (h : q.Gathers n k) : q.phase.receiving := by
  rw [h.phase]
  by_cases hk : k = n
  · exact .inr (.inr (.inr (if_pos hk)))
  · exact .inr (.inr (.inl (if_neg hk)))

theorem State.setPort_get (s : State) (p : Station) : s.setPort p (s.ports.get p) = s := by
  show { s with ports := _ } = s
  rw [PerStation.set_get]

/-- An operand byte. -/
theorem Port.Gathers.receiveByte {s : State} {p : Station} {n k : Nat} (h : (s.ports.get p).Gathers n k) (hk : k < n) (b : Byte) :
    ∃ q : Port, s.clockBits p (byteBits b) = s.setPort p q ∧ q.Gathers n (k + 1) := by
  have hphase : (s.ports.get p).phase = .operands := h.phase.trans (if_neg hk.ne)
  rw [State.clockBits_byte s p b h.receiving h.bits, State.receiveByte]
  simp only [hphase]
  exact ⟨_, rfl, rfl, h.length, congrArg (· + 1) h.count, by rw [h.count, h.length]⟩

/-- Some of the operand bytes of a request. -/
theorem Port.Gathers.clockBytes {p : Station} {n : Nat} : ∀ {l : List Byte} {s : State} {k : Nat},
    (s.ports.get p).Gathers n k → k + l.length ≤ n → ∃ q : Port, s.clockBytes p l = s.setPort p q ∧ q.Gathers n (k + l.length) := by
  intro l
  induction l with
  | nil => exact fun {s k} h _ => ⟨s.ports.get p, (s.setPort_get p).symm, h⟩
  | cons b l ih =>
    intro s k h hlen
    rw [List.length_cons] at hlen ⊢
    obtain ⟨q, hq, hgathers⟩ := h.receiveByte (by omega) b
    obtain ⟨q', hq', hgathers'⟩ := ih (s := s.setPort p q) (k := k + 1) (by rwa [State.setPort_ports, PerStation.get_set_same])
      (by omega)
    refine ⟨q', ?_, by rwa [show k + (l.length + 1) = k + 1 + l.length by omega]⟩
    rw [State.clockBytes_cons, hq, hq', State.setPort_setPort]

/-- The code byte and the length byte. -/
theorem State.clockBytes_header {s : State} {p : Station} (h : s.selected p) (code : Byte) {n : Nat} (hn : n ≤ 255) :
    (∃ q : Port, s.clockBytes p [code] = s.setPort p q ∧ q.phase = .length ∧ q.bits = []) ∧
    (∃ q : Port, s.clockBytes p [code, byte n] = s.setPort p q ∧ q.Gathers n 0) := by
  obtain ⟨hphase, hbits, -, hcount, -⟩ := h
  let coded : Port := { s.ports.get p with
    bits := [], code := code, check := crcByte (s.ports.get p).check code, phase := .length }
  have hcode : s.clockBits p (byteBits code) = s.setPort p coded := by
    rw [State.clockBits_byte s p code (.inl hphase) hbits, State.receiveByte]
    simp only [hphase]
    rfl
  have hport : (s.setPort p coded).ports.get p = coded := by rw [State.setPort_ports, PerStation.get_set_same]
  have hlength : (s.setPort p coded).clockBits p (byteBits (byte n)) = s.setPort p { coded with
      bits := [], length := byte n, check := crcByte coded.check (byte n)
      phase := if byte n = 0 then .check else .operands } := by
    rw [State.clockBits_byte _ p _ (by rw [hport]; exact .inr (.inl rfl)) (by rw [hport]), State.receiveByte]
    simp only [hport, State.setPort_setPort]
    rfl
  have hzero : byte n = 0 ↔ 0 = n := by
    rw [← BitVec.toNat_inj, byte_toNat hn]
    exact eq_comm
  refine ⟨⟨coded, ?_, rfl, rfl⟩, { coded with
    bits := [], length := byte n, check := crcByte coded.check (byte n)
    phase := if byte n = 0 then .check else .operands }, ?_, rfl, byte_toNat hn, hcount, if_congr hzero rfl rfl⟩
  · rw [State.clockBytes_cons, hcode]
    rfl
  · rw [State.clockBytes_cons, hcode, State.clockBytes_cons, hlength]
    rfl

/-- Fewer bytes than a whole request. -/
theorem State.clockBytes_short {s : State} {p : Station} {code : Byte} {f : Frame} (h : s.selected p)
    (hn : f.operands.length ≤ 255) {k : Nat} (hk : k < (frameBytes code f).length) :
    ∃ q : Port, s.clockBytes p ((frameBytes code f).take k) = s.setPort p q ∧ q.phase.receiving ∧ q.bits = [] := by
  obtain ⟨⟨q, hq, hqphase, hqbits⟩, q', hq', hgathers⟩ := State.clockBytes_header h code hn
  match k with
  | 0 => exact ⟨s.ports.get p, (s.setPort_get p).symm, .inl h.1, h.2.1⟩
  | 1 => exact ⟨q, hq, .inr (.inl hqphase), hqbits⟩
  | k + 2 =>
    have hk' : k ≤ f.operands.length := by
      simp only [frameBytes, List.length_cons, List.length_append, List.length_nil] at hk
      omega
    have hbytes : (frameBytes code f).take (k + 2) = [code, byte f.operands.length] ++ f.operands.take k := by
      simp [frameBytes, List.take_append_of_le_length hk']
    obtain ⟨q'', hq'', hgathers''⟩ := Port.Gathers.clockBytes (l := f.operands.take k) (s := s.setPort p q') (k := 0)
      (by rwa [State.setPort_ports, PerStation.get_set_same]) (by rw [List.length_take]; omega)
    refine ⟨q'', ?_, hgathers''.receiving, hgathers''.bits⟩
    rw [hbytes, State.clockBytes, bytesBits_append, State.clockBits_append]
    exact (congrArg (fun t : State => t.clockBytes p (f.operands.take k)) hq').trans
      (hq''.trans (State.setPort_setPort _ _ _ _))

/-- Fewer bits than a whole request leave the port in it, and nothing else changes (R166). -/
theorem State.clockBits_short {s : State} {p : Station} {code : Byte} {f : Frame} {sdi : List Bool} (h : s.selected p)
    (hn : f.operands.length ≤ 255) (hinitial : sdi <+: bytesBits (frameBytes code f))
    (hlt : sdi.length < (bytesBits (frameBytes code f)).length) :
    ∃ q : Port, s.clockBits p sdi = s.setPort p q ∧ q.phase.receiving := by
  obtain ⟨k, rest, hk, hrest, rfl⟩ := bytesBits_short hinitial hlt
  obtain ⟨q, hq, hphase, hbits⟩ := State.clockBytes_short (code := code) h hn hk
  have hheld := State.clockBits_hold p rest (s.setPort p q) (by simpa using hphase) (by simpa [hbits] using hrest)
  refine ⟨{ q with bits := q.bits ++ rest }, ?_, hphase⟩
  rw [State.clockBits_append]
  refine (congrArg (fun t : State => t.clockBits p rest) hq).trans (hheld.trans ?_)
  rw [State.setPort_setPort, State.setPort_ports, PerStation.get_set_same]

/-! ## A response clocked out (R165) -/

/-- The response once some of its bits are sampled. -/
def Response.sampled (r : Response) (n : Nat) : Response := { r with position := r.position + n }

theorem State.clockBits_response {p : Station} : ∀ {sdi : List Bool} {s : State} {r : Response},
    (s.ports.get p).phase = .response → (s.ports.get p).response = some r → r.position + sdi.length < (responseBits r).length →
    s.clockBits p sdi = s.setPort p { s.ports.get p with response := some (r.sampled sdi.length) } := by
  intro sdi
  induction sdi with
  | nil =>
    intro s r _ hr _
    have hsame : { s.ports.get p with response := some (r.sampled 0) } = s.ports.get p := by
      show { s.ports.get p with response := some r } = s.ports.get p
      rw [← hr]
    exact (s.setPort_get p).symm.trans (congrArg (s.setPort p) hsame.symm)
  | cons b sdi ih =>
    intro s r hphase hr hlen
    rw [List.length_cons] at hlen ⊢
    have hfirst : s.clockBit p b = s.setPort p { s.ports.get p with response := some (r.sampled 1) } := by
      unfold State.clockBit Port.shiftOut
      simp only [hphase, hr]
      exact congrArg (s.setPort p) (if_pos (by omega))
    have hport : (s.clockBit p b).ports.get p = { s.ports.get p with response := some (r.sampled 1) } := by
      rw [hfirst, State.setPort_ports, PerStation.get_set_same]
    have hthen := ih (s := s.clockBit p b) (r := r.sampled 1) (by rw [hport]; exact hphase) (by rw [hport])
      (by show r.position + 1 + sdi.length < (responseBits r).length; omega)
    refine hthen.trans ?_
    rw [hport, hfirst, State.setPort_setPort]
    simp only [Response.sampled, Nat.add_assoc, Nat.add_comm 1]

theorem State.clockBits_trailing {p : Station} {s : State} (h : (s.ports.get p).phase = .trailing) (sdi : List Bool) :
    s.clockBits p sdi = s := by
  induction sdi with
  | nil => rfl
  | cons b sdi ih =>
    have hbit : s.clockBit p b = s := by
      unfold State.clockBit
      simp only [h]
    exact (congrArg (fun t : State => t.clockBits p sdi) hbit).trans ih

theorem responseBits_pos (r : Response) : 0 < (responseBits r).length := by
  rw [responseBits, bytesBits_length]
  simp

/-- All the bits of a response, and clocks beyond them. -/
theorem State.clockBits_responded {p : Station} {s : State} {r : Response} {sdi : List Bool}
    (hphase : (s.ports.get p).phase = .response) (hr : (s.ports.get p).response = some r) (hzero : r.position = 0)
    (hlen : (responseBits r).length ≤ sdi.length) :
    ∃ q : Port, s.clockBits p sdi = s.setPort p q ∧ q.phase = .trailing := by
  have hpos := responseBits_pos r
  obtain ⟨sent, last, beyond, hsent, rfl⟩ : ∃ sent, ∃ (last : Bool) (beyond : List Bool),
      sent.length + 1 = (responseBits r).length ∧ sdi = sent ++ last :: beyond := by
    have hlast : (responseBits r).length - 1 < sdi.length := by omega
    refine ⟨sdi.take ((responseBits r).length - 1), sdi[(responseBits r).length - 1],
      sdi.drop ((responseBits r).length - 1 + 1), ?_, ?_⟩
    · rw [List.length_take]
      omega
    · rw [← List.drop_eq_getElem_cons, List.take_append_drop]
  have hall := State.clockBits_response (sdi := sent) hphase hr (by omega)
  let all : Port := { s.ports.get p with response := some (r.sampled sent.length) }
  let trailing : Port := { all with phase := .trailing, response := some (r.sampled (sent.length + 1)) }
  have hport : (s.setPort p all).ports.get p = all := by rw [State.setPort_ports, PerStation.get_set_same]
  have hlast : (s.setPort p all).clockBit p last = s.setPort p trailing := by
    unfold State.clockBit Port.shiftOut
    have hphase' : all.phase = .response := hphase
    have hr' : all.response = some (r.sampled sent.length) := rfl
    have hend : ¬ (r.sampled sent.length).position + 1 < (responseBits (r.sampled sent.length)).length := by
      show ¬ r.position + sent.length + 1 < (responseBits r).length
      omega
    simp only [hport, hphase', hr', if_neg hend, State.setPort_setPort]
    rfl
  refine ⟨trailing, ?_, rfl⟩
  rw [State.clockBits_append, hall]
  show ((s.setPort p all).clockBit p last).clockBits p beyond = _
  rw [hlast, State.clockBits_trailing (by rw [State.setPort_ports, PerStation.get_set_same])]

/-! ## The end of a selection, and a clock that comes too soon -/

theorem exec_selectionEnd {s : State} {p : Station} {sdi : List Bool} {q : Port} (h : s.clockBits p sdi = s.setPort p q) :
    exec (.selectionEnd p sdi) s = .next (s.setPort p q.rise) := by
  show Host.Outcome.next ((s.clockBits p sdi).setPort p ((s.clockBits p sdi).ports.get p).rise) = _
  rw [h, State.setPort_setPort, State.setPort_ports, PerStation.get_set_same]

theorem exec_selectionOverrun {s : State} {p : Station} {sdi : List Bool} {q : Port}
    (h : s.clockBits p sdi = s.setPort p q) : exec (.selectionOverrun p sdi) s = .next (s.setPort p q.overrunEdge) := by
  show Host.Outcome.next ((s.clockBits p sdi).setPort p ((s.clockBits p sdi).ports.get p).overrunEdge) = _
  rw [h, State.setPort_setPort, State.setPort_ports, PerStation.get_set_same]

theorem Port.overrunEdge_eq {q : Port} (h : q.phase ≠ .idle) :
    q.overrunEdge = { q with phase := .overrun, bits := [], response := none } := by
  unfold Port.overrunEdge
  split
  · next hidle => exact absurd hidle h
  · rfl

/-- Settles O52: bits short of a request by `State.clockBits_short`, bits of a response sampled one by one. -/
theorem responsesAndUnfinishedRequests : Obligations.ResponsesAndUnfinishedRequests := by
  refine ⟨fun s p code f sdi hsel hn hinitial hlt => ?_, fun s p r sdi hphase hr hzero => ?_⟩
  · obtain ⟨q, hq, hreceiving⟩ := State.clockBits_short hsel hn hinitial hlt
    have hidle : q.phase ≠ .idle := by rcases hreceiving with h | h | h | h <;> rw [h] <;> nofun
    have hover := exec_selectionOverrun hq
    rw [Port.overrunEdge_eq hidle] at hover
    exact ⟨⟨_, exec_selectionEnd hq, rfl, rfl, rfl, rfl, rfl⟩, _, hover, rfl, rfl, rfl⟩
  · have hclocked : ∃ q : Port, s.clockBits p sdi = s.setPort p q ∧ q.phase ≠ .idle ∧
        (sdi.length < (responseBits r).length → q.sdo = some ((responseBits r).getD sdi.length false)) ∧
        ((responseBits r).length ≤ sdi.length → q.phase = .trailing) := by
      by_cases hlen : sdi.length < (responseBits r).length
      · refine ⟨_, State.clockBits_response hphase hr (by omega), ?_, fun _ => ?_, fun h => absurd h (not_le.mpr hlen)⟩
        · show (s.ports.get p).phase ≠ .idle
          rw [hphase]
          nofun
        · have hshown : (r.sampled sdi.length).position = sdi.length := by simp [Response.sampled, hzero]
          unfold Port.sdo
          simp only [hphase, hshown]
          rfl
      · obtain ⟨q, hq, htrailing⟩ := State.clockBits_responded hphase hr hzero (not_lt.mp hlen)
        exact ⟨q, hq, by rw [htrailing]; nofun, fun h => absurd h hlen, fun _ => htrailing⟩
    obtain ⟨q, hq, hidle, hshort, hlong⟩ := hclocked
    have hport : (s.clockBits p sdi).ports.get p = q := by rw [hq, State.setPort_ports, PerStation.get_set_same]
    have hover := exec_selectionOverrun hq
    rw [Port.overrunEdge_eq hidle] at hover
    rw [hport]
    refine ⟨hshort, fun hlen => ⟨hlong hlen, ?_⟩, ⟨_, hover, rfl⟩, _, exec_selectionEnd hq, rfl, rfl⟩
    rw [Port.sdo, hlong hlen]

end Sys2Proof.Machine
end

section
/-! SUPPORT. The epoch commit as a whole state: the map, the slots of new producers and the records (R41, R48, R49, R69 to
R75, R86, R87). -/

namespace Sys2Proof.Machine

theorem eventsFor_append (m : Station) (l k : List (Station × Event)) :
    eventsFor m (l ++ k) = eventsFor m l ++ eventsFor m k := by simp [eventsFor]

/-! ## The change list, entry by entry -/

/-- Each change of a list with the map that the changes before it leave. -/
def changeSteps : List SlotEntry → List Change → List (Change × List SlotEntry)
  | _, [] => []
  | m, c :: l => (c, m) :: changeSteps (c.onMap m) l

theorem changeSteps_eq (m : List SlotEntry) (l k : List Change) : changeSteps (projectFrom m k) l =
    (l.zipIdx k.length).map (fun x => (x.1, projectFrom m ((k ++ l).take x.2))) := by
  induction l generalizing k with
  | nil => rfl
  | cons c l ih =>
    have hnext : (projectFrom m (k ++ [c])) = c.onMap (projectFrom m k) := by simp [projectFrom]
    have hrest := ih (k ++ [c])
    rw [hnext, List.append_assoc, List.length_append] at hrest
    rw [changeSteps, List.zipIdx_cons, List.map_cons, hrest]
    simp

/-- The change list of a state, each entry with the map before it. -/
theorem State.changeSteps_eq (s : State) : changeSteps (s.slotMap.map SlotEntry.removeDue) s.changes =
    s.changes.zipIdx.map (fun x => (x.1, s.mapAfter x.2)) := by
  simp only [State.mapAfter_eq]
  exact Machine.changeSteps_eq _ s.changes []

/-- The slots after one change. -/
def slotsStep (st : Stamp) (x : List SlotState) (y : Change × List SlotEntry) : List SlotState :=
  if y.1.check y.2 = .ok then y.1.onSlots st x else x

/-- The records of one change (R69, R71, R72, R75). -/
def commitNews (owner : Change → Option Station) (y : Change × List SlotEntry) : List (Station × Event) :=
  (if y.1.check y.2 = .ok then y.1.notices (mapEntry y.2 y.1.slot) else []) ++
    (owner y.1).toList.map (fun n => (n, Event.changeDone y.1.id y.1.kind.entryKind y.1.slot (y.1.check y.2)))

theorem State.commitChange_noted (s : State) (c : Change) : s.commitChange c =
    ((s.setSlotMap (c.onMap s.slotMap)).setSlots (slotsStep s.stamp s.slots (c, s.slotMap))).noted s.stamp
      (fun m => eventsFor m (commitNews s.changeOwner (c, s.slotMap))) := by
  by_cases hok : c.check s.slotMap = .ok
  · refine (if_pos hok).trans ((State.raiseAll_noted _ _ _).trans ?_)
    simp only [slotsStep, commitNews, if_pos hok]
    rfl
  · refine (if_neg hok).trans ((State.raiseAll_noted _ _ _).trans ?_)
    simp only [Change.onMap, slotsStep, commitNews, if_neg hok]
    rfl

theorem State.foldl_commitChange (l : List Change) (s : State) : l.foldl (fun t c => t.commitChange c) s =
    ((s.setSlotMap (projectFrom s.slotMap l)).setSlots ((changeSteps s.slotMap l).foldl (slotsStep s.stamp) s.slots)).noted
      s.stamp (fun m => eventsFor m ((changeSteps s.slotMap l).flatMap (commitNews s.changeOwner))) := by
  induction l generalizing s with
  | nil => exact (State.noted_none s s.stamp).symm
  | cons c l ih =>
    rw [List.foldl_cons, ih, State.commitChange_noted]
    refine (State.noted_noted ((s.setSlotMap (projectFrom s.slotMap (c :: l))).setSlots
      ((changeSteps s.slotMap (c :: l)).foldl (slotsStep s.stamp) s.slots)) s.stamp
      (fun m => eventsFor m (commitNews s.changeOwner (c, s.slotMap)))
      (fun m => eventsFor m ((changeSteps (c.onMap s.slotMap) l).flatMap (commitNews s.changeOwner)))).trans ?_
    exact State.noted_congr _ _ fun m => (eventsFor_append m _ _).symm

/-! ## The slots of new producers (R86, R87) -/

/-- The kinds of change that give a slot another producer, or none. -/
def ChangeKind.movesProducer (k : ChangeKind) : Prop := k = .claim ∨ k = .release ∨ k = .forceRelease

theorem Change.onSlots_get (c : Change) (st : Stamp) {x : List SlotState} (k : Nat) (hk : k < x.length) :
    (c.onSlots st x).length = x.length ∧
    (c.slot = k ∧ c.kind.movesProducer → (c.onSlots st x).getD k resetSlot = clearedSlot st) ∧
    (¬ (c.slot = k ∧ c.kind.movesProducer) → (c.onSlots st x).getD k resetSlot = x.getD k resetSlot) := by
  have hset : (x.set c.slot (clearedSlot st)).length = x.length ∧
      (c.slot = k → (x.set c.slot (clearedSlot st)).getD k resetSlot = clearedSlot st) ∧
      (¬ c.slot = k → (x.set c.slot (clearedSlot st)).getD k resetSlot = x.getD k resetSlot) := by
    refine ⟨List.length_set, fun h => ?_, fun h => ?_⟩
    · simp [h, List.getD_eq_getElem?_getD, hk]
    · simp [List.getD_eq_getElem?_getD, List.getElem?_set_ne h]
  obtain ⟨hlen, hsame, hother⟩ := hset
  unfold Change.onSlots ChangeKind.movesProducer
  cases c.kind with
  | claim => exact ⟨hlen, fun h => hsame h.1, fun h => hother fun hs => h ⟨hs, .inl rfl⟩⟩
  | release => exact ⟨hlen, fun h => hsame h.1, fun h => hother fun hs => h ⟨hs, .inr (.inl rfl)⟩⟩
  | forceRelease => exact ⟨hlen, fun h => hsame h.1, fun h => hother fun hs => h ⟨hs, .inr (.inr rfl)⟩⟩
  | subscribe mode => exact ⟨rfl, fun h => by simp at h, fun _ => rfl⟩
  | unsubscribe => exact ⟨rfl, fun h => by simp at h, fun _ => rfl⟩

/-- A change that gives slot k another producer, or none. -/
def movesProducerOf (k : Nat) (y : Change × List SlotEntry) : Prop :=
  y.1.check y.2 = .ok ∧ y.1.slot = k ∧ y.1.kind.movesProducer

theorem slotsStep_get (st : Stamp) {x : List SlotState} (y : Change × List SlotEntry) (k : Nat) (hk : k < x.length) :
    (slotsStep st x y).length = x.length ∧
    (movesProducerOf k y → (slotsStep st x y).getD k resetSlot = clearedSlot st) ∧
    (¬ movesProducerOf k y → (slotsStep st x y).getD k resetSlot = x.getD k resetSlot) := by
  obtain ⟨hlen, hmoved, hkept⟩ := y.1.onSlots_get st k hk
  unfold slotsStep movesProducerOf
  by_cases hok : y.1.check y.2 = .ok
  · rw [if_pos hok]
    exact ⟨hlen, fun h => hmoved h.2, fun h => hkept fun hs => h ⟨hok, hs⟩⟩
  · rw [if_neg hok]
    exact ⟨rfl, fun h => absurd h.1 hok, fun _ => rfl⟩

theorem slotsSteps_get (st : Stamp) (l : List (Change × List SlotEntry)) (k : Nat) : ∀ {x : List SlotState}, k < x.length →
    ((x.getD k resetSlot = clearedSlot st ∨ ∃ y ∈ l, movesProducerOf k y) →
      (l.foldl (slotsStep st) x).getD k resetSlot = clearedSlot st) ∧
    ((∀ y ∈ l, ¬ movesProducerOf k y) → (l.foldl (slotsStep st) x).getD k resetSlot = x.getD k resetSlot) := by
  induction l with
  | nil => exact fun _ => ⟨fun h => h.resolve_right (by simp), fun _ => rfl⟩
  | cons y l ih =>
    intro x hk
    obtain ⟨hlen, hmoved, hkept⟩ := slotsStep_get st y k hk
    obtain ⟨hcleared, hsame⟩ := ih (x := slotsStep st x y) (hlen ▸ hk)
    refine ⟨fun h => hcleared ?_, fun h => ?_⟩
    · by_cases hy : movesProducerOf k y
      · exact .inl (hmoved hy)
      · rcases h with h | ⟨z, hz, hmoves⟩
        · exact .inl ((hkept hy).trans h)
        · rcases List.mem_cons.mp hz with rfl | hz
          · exact absurd hmoves hy
          · exact .inr ⟨z, hz, hmoves⟩
    · rw [List.foldl_cons, hsame fun z hz => h z (List.mem_cons_of_mem _ hz), hkept (h y List.mem_cons_self)]

/-! ## The removals (R48, R49) -/

theorem SlotEntry.producerDue_eq_any (e : SlotEntry) : e.producerDue = e.producer.any (fun q => q.releaseDue) := by
  unfold SlotEntry.producerDue
  cases e.producer with
  | none => rfl
  | some p => rfl

theorem State.removeDueRoles_noted (s : State) : s.removeDueRoles =
    ((s.setSlotMap (s.slotMap.map SlotEntry.removeDue)).setSlots
      (s.slots.zipIdx.map (fun x => if (s.entry x.2).producerDue then clearedSlot s.stamp else x.1))).noted s.stamp
      (fun m => s.slotMap.zipIdx.flatMap (fun x =>
        eventsFor m (if x.1.producerDue then vacatedNotices x.2 x.1.removeDue else []))) := by
  rw [State.removeDueRoles, State.raiseAll_noted]
  exact State.noted_congr _ _ fun m => eventsFor_flatMap m _ _

/-- The slots once the slots that lose their producer by removal are cleared. -/
def State.slotsRemoved (s : State) : List SlotState :=
  s.slots.zipIdx.map (fun x => if (s.entry x.2).producerDue then clearedSlot s.stamp else x.1)

theorem State.slotsRemoved_get (s : State) {k : Nat} (hk : k < s.slots.length) :
    s.slotsRemoved.length = s.slots.length ∧
    s.slotsRemoved.getD k resetSlot = if (s.entry k).producerDue then clearedSlot s.stamp else s.slot k := by
  refine ⟨by simp [State.slotsRemoved], ?_⟩
  simp [State.slotsRemoved, List.getD_eq_getElem?_getD, State.slot, hk]

theorem eventsFor_vacated (m : Station) (k : Nat) (e : SlotEntry) : eventsFor m (vacatedNotices k e) =
    (e.consumers.filter (fun c => c.station = m)).map (fun _ => Event.slotVacated k) := by
  simp only [eventsFor, vacatedNotices, List.filter_map, List.map_map]
  rfl

/-! ## The commit as the one work due -/

theorem State.idle_commit {s : State} (hdue : s.due = [.commit]) (hphase : s.lane.phase = .transferStep) :
    s.idle = (s.setDue []).commit := by
  have hidle : s.idle = s.takeWork .commit := by
    unfold State.idle
    rw [hdue]
    rfl
  rw [hidle, State.takeWork_quiet (w := .commit) (by simp [hdue]) nofun hphase, State.dropWork, hdue]
  rfl

theorem State.commit_eq (s : State) : s.commit =
    (((s.setSlotMap s.projected).setSlots
      ((changeSteps (s.slotMap.map SlotEntry.removeDue) s.changes).foldl (slotsStep s.stamp) s.slotsRemoved)).setChanges []).noted
      s.stamp (fun m => s.slotMap.zipIdx.flatMap (fun x =>
          eventsFor m (if x.1.producerDue then vacatedNotices x.2 x.1.removeDue else [])) ++
        (changeSteps (s.slotMap.map SlotEntry.removeDue) s.changes).flatMap
          (fun y => eventsFor m (commitNews s.changeOwner y))) := by
  show (s.removeDueRoles.changes.foldl (fun t c => t.commitChange c) s.removeDueRoles).setChanges [] = _
  rw [State.foldl_commitChange, State.removeDueRoles_noted]
  refine (State.noted_noted (((s.setSlotMap s.projected).setSlots
      ((changeSteps (s.slotMap.map SlotEntry.removeDue) s.changes).foldl (slotsStep s.stamp) s.slotsRemoved)).setChanges [])
      s.stamp (fun m => s.slotMap.zipIdx.flatMap (fun x =>
        eventsFor m (if x.1.producerDue then vacatedNotices x.2 x.1.removeDue else [])))
      (fun m => eventsFor m ((changeSteps (s.slotMap.map SlotEntry.removeDue) s.changes).flatMap
        (commitNews s.changeOwner)))).trans (State.noted_congr _ _ fun m => ?_)
  exact congrArg _ (eventsFor_flatMap m _ _)

/-! ## The records, as the rules write them -/

theorem eventsFor_owner (m : Station) (o : Option Station) (e : Event) :
    eventsFor m (o.toList.map (fun n => (n, e))) = if o = some m then [e] else [] := by
  cases o with
  | none => rfl
  | some n => by_cases h : n = m <;> simp [eventsFor, h]

theorem eventsFor_lost (m n : Station) (e : Event) : eventsFor m [(n, e)] = if n = m then [e] else [] := by
  by_cases h : n = m <;> simp [eventsFor, h]

theorem eventsFor_removal (m : Station) (k : Nat) (e : SlotEntry) :
    eventsFor m (if e.producerDue then vacatedNotices k e.removeDue else []) =
      if e.producerDue then ((e.consumers.filter (fun c => c.releaseDue = false)).filter (fun c => c.station = m)).map
        (fun _ => Event.slotVacated k) else [] := by
  split
  · rw [eventsFor_vacated, SlotEntry.removeDue_eq_cleared]
    rfl
  · rfl

/-- An applied FORCE_RELEASE finds a producer (R72). -/
theorem Change.forceRelease_ok {c : Change} {m : List SlotEntry} (hkind : c.kind = .forceRelease) (hok : c.check m = .ok) :
    ∃ q, (mapEntry m c.slot).producer = some q := by
  obtain ⟨id, origin, kind, slot, stamp⟩ := c
  subst hkind
  by_cases hsome : (mapEntry m slot).producer.isSome = true
  · exact Option.isSome_iff_exists.mp hsome
  · cases hok.symm.trans (if_neg hsome)

/-- The records of an applied change but its CHANGE_DONE, for one station (R71, R72). -/
theorem Change.eventsFor_notices (m : Station) (c : Change) (e : SlotEntry) :
    (c.kind = .release → eventsFor m (c.notices e) =
      (e.consumers.filter (fun r => r.station = m)).map (fun _ => Event.slotVacated c.slot)) ∧
    (∀ q, c.kind = .forceRelease → e.producer = some q → eventsFor m (c.notices e) =
      (if q.station = m then [Event.slotLost c.slot] else []) ++
        (e.consumers.filter (fun r => r.station = m)).map (fun _ => Event.slotVacated c.slot)) := by
  obtain ⟨id, origin, kind, slot, stamp⟩ := c
  refine ⟨fun h => ?_, fun q h hq => ?_⟩
  · subst h
    exact eventsFor_vacated m slot e
  · subst h
    unfold Change.notices
    rw [hq]
    exact (eventsFor_append m _ _).trans (congrArg₂ _ (eventsFor_lost m _ _) (eventsFor_vacated m slot e))

/-- Settles O27: the commit by `State.commit_eq`, its slots by `slotsSteps_get`, its records entry by entry. -/
theorem commitGivesTheProjectedMap : Obligations.CommitGivesTheProjectedMap := by
  refine ⟨State.projected_eq_mapAfter, fun s hpending hdue hphase hslots hmap => ?_⟩
  intro st result vacated ofRemovals ofChange newProducer removed
  have hresult : ∀ x : Change × Nat, result x = x.1.check (s.mapAfter x.2) := fun x => x.1.outcome_fst _
  have hmoves : ∀ k, (∃ y ∈ changeSteps (s.slotMap.map SlotEntry.removeDue) s.changes, movesProducerOf k y) ↔
      newProducer k := fun k => by
    rw [State.changeSteps_eq]
    simp only [List.mem_map, exists_exists_and_eq_and, newProducer, hresult, movesProducerOf]
    exact ⟨fun ⟨x, hx, hok, hslot, hkind⟩ => ⟨x, hx, hslot, hok, hkind⟩,
      fun ⟨x, hx, hslot, hok, hkind⟩ => ⟨x, hx, hok, hslot, hkind⟩⟩
  have hremoved : ∀ k, (s.entry k).producerDue = true ↔ removed k := fun k => by rw [SlotEntry.producerDue_eq_any]
  refine ⟨_, (step_idle hpending).trans (congrArg Host.Outcome.next ((State.idle_commit hdue hphase).trans
    (State.commit_eq (s.setDue [])))), ?_, rfl, rfl, rfl, rfl, rfl, rfl, rfl, rfl, fun k hk hsome => ?_,
    fun k hk hkept hnone => ?_, fun m => ?_⟩
  · exact s.projected_eq_mapAfter
  · have hk' : k < s.slots.length := hslots ▸ hk
    obtain ⟨hlen, hget⟩ := s.slotsRemoved_get hk'
    refine (slotsSteps_get s.stamp _ k (hlen ▸ hk')).1 (hsome.imp (fun h => ?_) (hmoves k).mpr)
    exact hget.trans (if_pos ((hremoved k).mpr h))
  · have hk' : k < s.slots.length := hslots ▸ hk
    obtain ⟨hlen, hget⟩ := s.slotsRemoved_get hk'
    refine ((slotsSteps_get s.stamp _ k (hlen ▸ hk')).2 fun y hy hmoved => hnone ((hmoves k).mp ⟨y, hy, hmoved⟩)).trans ?_
    exact hget.trans (if_neg (mt (hremoved k).mp hkept))
  · have hfirst : (s.slotMap.zipIdx.flatMap (fun x =>
        eventsFor m (if x.1.producerDue then vacatedNotices x.2 x.1.removeDue else []))) = ofRemovals m := by
      refine List.flatMap_congr fun y _ => (eventsFor_removal m y.2 y.1).trans ?_
      obtain ⟨⟨producer, consumers⟩, k⟩ := y
      cases producer with
      | none => rfl
      | some q => obtain ⟨n, due, orphaned⟩ := q; cases due <;> rfl
    have hthen : (changeSteps (s.slotMap.map SlotEntry.removeDue) s.changes).flatMap
        (fun y => eventsFor m (commitNews s.changeOwner y)) = s.changes.zipIdx.flatMap (ofChange m) := by
      rw [State.changeSteps_eq, List.flatMap_map]
      refine List.flatMap_congr fun x _ => (eventsFor_append m _ _).trans (congrArg₂ _ ?_ ?_)
      · by_cases hok : x.1.check (s.mapAfter x.2) = .ok
        · obtain ⟨hrelease, hforce⟩ := x.1.eventsFor_notices m (mapEntry (s.mapAfter x.2) x.1.slot)
          refine (congrArg (eventsFor m) (if_pos hok)).trans (Eq.trans ?_ (if_pos ((hresult x).trans hok)).symm)
          obtain ⟨⟨id, origin, kind, slot, stamp⟩, i⟩ := x
          cases kind with
          | claim => rfl
          | release => exact hrelease rfl
          | forceRelease =>
            obtain ⟨q, hq⟩ := Change.forceRelease_ok rfl hok
            refine (hforce q rfl hq).trans ?_
            have hproducer : ((s.mapAfter i).getD slot { producer := none, consumers := [] }).producer = some q := hq
            simp only [hproducer]
            rfl
          | subscribe mode => rfl
          | unsubscribe => rfl
        · exact (congrArg (eventsFor m) (if_neg hok)).trans (if_neg (by rw [hresult]; exact hok)).symm
      · refine (eventsFor_owner m _ _).trans ?_
        obtain ⟨⟨id, origin, kind, slot, stamp⟩, i⟩ := x
        have hkind : kind.entryKind = kind.shown := by cases kind <;> rfl
        rw [hresult, ← hkind]
        cases origin <;> rfl
    rw [State.noted_events]
    exact if_congr Iff.rfl (by rw [← hfirst, ← hthen]; rfl) rfl

end Sys2Proof.Machine
end

section
/-! SUPPORT. The latch of a boundary: the slots, and the ring entries and their records (R82 to R85, R93 to R98). -/

namespace Sys2Proof.Machine

/-! ## A run of entries logged in one ring (R94, R96, R98) -/

/-- The record that an entry raises as it joins the ring or is dropped. -/
def Ring.record (r : Ring) : List Event :=
  if r.entries.length < 64 then if r.entries.length + 1 = r.watermark then [.ringLevel r.watermark] else []
  else if r.gap = 0 then [.ringDropping] else []

/-- The records of a run of entries. -/
def Ring.records : Ring → List RingEntry → List Event
  | _, [] => []
  | r, e :: l => r.record ++ Ring.records (r.logged e) l

theorem Ring.records_append (r : Ring) (l k : List RingEntry) :
    r.records (l ++ k) = r.records l ++ (l.foldl Ring.logged r).records k := by
  induction l generalizing r with
  | nil => rfl
  | cons e l ih => exact (congrArg (r.record ++ ·) (ih _)).trans (List.append_assoc _ _ _).symm

theorem Ring.logged_room {r : Ring} (h : r.entries.length < 64) (e : RingEntry) :
    r.logged e = { r with entries := r.entries ++ [{ e with gap := r.gap }], gap := 0 } := if_pos h

theorem Ring.logged_full {r : Ring} (h : 64 ≤ r.entries.length) (e : RingEntry) :
    r.logged e = { r with gap := saturatingSucc r.gap } := if_neg (not_lt.mpr h)

theorem saturatingSucc_eq (n : Nat) : saturatingSucc n = min 255 (n + 1) := by
  unfold saturatingSucc
  simp only [Config.saturation]
  split <;> omega

theorem withGap_zero {l : List RingEntry} (h : ∀ e ∈ l, e.gap = 0) : withGap 0 l = l := by
  cases l with
  | nil => rfl
  | cons e l =>
    have he : { e with gap := 0 } = e := by rw [← h e List.mem_cons_self]
    exact congrArg (· :: l) he

/-- What a run of entries leaves of a ring: those that find room have joined it, the first with the pending gap count, and
the others are counted (R96). -/
structure Ring.Holds (r : Ring) (made : List RingEntry) (t : Ring) : Prop where
  entries   : t.entries = r.entries ++ withGap r.gap (made.take (64 - r.entries.length))
  gap       : t.gap = if made = [] then r.gap
    else min 255 ((if 64 - r.entries.length = 0 then r.gap else 0) + (made.length - (64 - r.entries.length)))
  watermark : t.watermark = r.watermark

/-- The first of a run of entries takes one of the places left. -/
theorem take_room {n : Nat} (h : n < 64) (e : RingEntry) (l : List RingEntry) :
    (e :: l).take (64 - n) = e :: l.take (64 - (n + 1)) := by
  rw [show 64 - n = 64 - (n + 1) + 1 by omega, List.take_succ_cons]

theorem Ring.length_logged_room {r : Ring} (h : r.entries.length < 64) (e : RingEntry) :
    (r.logged e).entries.length = r.entries.length + 1 := by
  rw [Ring.logged_room h]
  simp

theorem Ring.foldl_logged : ∀ {l : List RingEntry} {r : Ring}, (∀ e ∈ l, e.gap = 0) → r.Holds l (l.foldl Ring.logged r) := by
  intro l
  induction l with
  | nil => exact fun _ => ⟨by simp [withGap], rfl, rfl⟩
  | cons e l ih =>
    intro r hgaps
    have hrest : ∀ x ∈ l, x.gap = 0 := fun x hx => hgaps x (List.mem_cons_of_mem _ hx)
    obtain ⟨hentries, hgap, hwatermark⟩ := ih (r := r.logged e) hrest
    by_cases hroom : r.entries.length < 64
    · have hlogged := Ring.logged_room hroom e
      rw [Ring.length_logged_room hroom] at hentries hgap
      have hgap0 : (r.logged e).gap = 0 := by rw [hlogged]
      refine ⟨?_, ?_, hwatermark.trans (by rw [hlogged])⟩
      · rw [List.foldl_cons, hentries, hgap0, withGap_zero fun x hx => hrest x (List.mem_of_mem_take hx), take_room hroom, hlogged]
        exact List.append_assoc _ _ _
      · rw [List.foldl_cons, hgap, hgap0, ite_self, if_neg (List.cons_ne_nil e l), if_neg (show ¬ 64 - r.entries.length = 0 by omega),
          List.length_cons]
        split
        · next hnil => rw [hnil, List.length_nil]; omega
        · omega
    · have hlogged := Ring.logged_full (not_lt.mp hroom) e
      have hnone : 64 - r.entries.length = 0 := by omega
      have hsame : (r.logged e).entries = r.entries := by rw [hlogged]
      have hgap1 : (r.logged e).gap = min 255 (r.gap + 1) := by rw [hlogged, saturatingSucc_eq]
      rw [hsame, hnone] at hentries hgap
      refine ⟨?_, ?_, hwatermark.trans (by rw [hlogged])⟩
      · rw [List.foldl_cons, hentries, hnone]
        rfl
      · rw [List.foldl_cons, hgap, hgap1, hnone, if_pos rfl, if_pos rfl, if_neg (List.cons_ne_nil e l), List.length_cons]
        split
        · next hnil => rw [hnil, List.length_nil]
        · omega

/-- The watermark is reached by the first entry or by one after it. -/
theorem level_split (n w count : Nat) (x : Event) (h : n + 1 ≤ count) :
    (if n + 1 = w then [x] else []) ++ (if n + 1 < w ∧ w ≤ count then [x] else []) = if n < w ∧ w ≤ count then [x] else [] := by
  by_cases hfirst : n + 1 = w
  · rw [if_pos hfirst, if_neg (by omega), if_pos (by omega)]
    rfl
  · rw [if_neg hfirst]
    exact if_congr (by omega) rfl rfl

/-- The records of a run of entries: the watermark reached, then the first entry dropped (R98). -/
theorem Ring.records_eq : ∀ (l : List RingEntry) (r : Ring), r.records l =
    (if r.entries.length < r.watermark ∧ r.watermark ≤ r.entries.length + (l.take (64 - r.entries.length)).length then
      [Event.ringLevel r.watermark] else []) ++
    (if 64 - r.entries.length < l.length ∧ (if 64 - r.entries.length = 0 then r.gap else 0) = 0 then [Event.ringDropping]
      else []) := by
  intro l
  induction l with
  | nil =>
    intro r
    rw [if_neg (by simp only [List.take_nil, List.length_nil]; omega), if_neg (by simp)]
    rfl
  | cons e l ih =>
    intro r
    rw [Ring.records, ih]
    by_cases hroom : r.entries.length < 64
    · have hlogged := Ring.logged_room hroom e
      have hgap0 : (r.logged e).gap = 0 := by rw [hlogged]
      have hwatermark : (r.logged e).watermark = r.watermark := by rw [hlogged]
      have hrecord : r.record = if r.entries.length + 1 = r.watermark then [.ringLevel r.watermark] else [] := if_pos hroom
      have hrun : (if 64 - r.entries.length = 0 then r.gap else 0) = 0 := if_neg (by omega)
      rw [Ring.length_logged_room hroom, hgap0, hwatermark, ite_self, hrecord, hrun, take_room hroom, List.length_cons,
        List.length_cons, ← List.append_assoc]
      refine congrArg₂ _ ?_ (if_congr (by omega) rfl rfl)
      rw [← level_split r.entries.length r.watermark _ _ (show r.entries.length + 1 ≤
        r.entries.length + ((l.take (64 - (r.entries.length + 1))).length + 1) by omega)]
      exact congrArg _ (if_congr (by omega) rfl rfl)
    · have hlogged := Ring.logged_full (not_lt.mp hroom) e
      have hnone : 64 - r.entries.length = 0 := by omega
      have hsame : (r.logged e).entries = r.entries := by rw [hlogged]
      have hgap1 : (r.logged e).gap = min 255 (r.gap + 1) := by rw [hlogged, saturatingSucc_eq]
      have hwatermark : (r.logged e).watermark = r.watermark := by rw [hlogged]
      have hrecord : r.record = if r.gap = 0 then [.ringDropping] else [] := if_neg hroom
      rw [hsame, hgap1, hwatermark, hrecord, hnone, if_pos rfl, if_pos rfl, List.take_zero, List.take_zero, List.length_nil,
        if_neg (show ¬ (r.entries.length < r.watermark ∧ r.watermark ≤ r.entries.length + 0) by omega),
        if_neg (show ¬ (0 < l.length ∧ min 255 (r.gap + 1) = 0) by omega), List.length_cons, List.nil_append,
        List.append_nil, List.nil_append]
      exact if_congr (by omega) rfl rfl

end Sys2Proof.Machine
end

section
/-! SUPPORT. The latch of a boundary as a whole state (R82 to R85, R93 to R98). -/

namespace Sys2Proof.Machine

/-! ## Entries logged at several stations, with one stamp -/

/-- The entries of a list that are for station m, in order. -/
def entriesFor (m : Station) (l : List (Station × RingEntry)) : List RingEntry := (l.filter (fun x => x.1 = m)).map Prod.snd

theorem entriesFor_append (m : Station) (l k : List (Station × RingEntry)) :
    entriesFor m (l ++ k) = entriesFor m l ++ entriesFor m k := by simp [entriesFor]

theorem entriesFor_flatMap {α : Type} (m : Station) (l : List α) (g : α → List (Station × RingEntry)) :
    entriesFor m (l.flatMap g) = l.flatMap (fun x => entriesFor m (g x)) := by
  simp only [entriesFor, List.filter_flatMap, List.map_flatMap]

/-- The rings and the event queues after a list of entries. -/
def State.ringed (s : State) (st : Stamp) (l : List (Station × RingEntry)) : State :=
  ({ s with rings := s.rings.map (fun m r => (entriesFor m l).foldl Ring.logged r) } : State).noted st
    (fun m => (s.rings.get m).records (entriesFor m l))

theorem State.ringed_nil (s : State) (st : Stamp) : s.ringed st [] = s := by
  have hrings : s.rings.map (fun m r => (entriesFor m []).foldl Ring.logged r) = s.rings := PerStation.map_same s.rings
  unfold State.ringed
  rw [hrings]
  exact s.noted_none st

theorem State.ringed_ringed (s : State) (st : Stamp) (l k : List (Station × RingEntry)) :
    (s.ringed st l).ringed st k = s.ringed st (l ++ k) := by
  have hrings : (s.rings.map (fun m r => (entriesFor m l).foldl Ring.logged r)).map
      (fun m r => (entriesFor m k).foldl Ring.logged r) =
      s.rings.map (fun m r => (entriesFor m (l ++ k)).foldl Ring.logged r) := PerStation.ext_get fun m => by
    rw [PerStation.get_map, PerStation.get_map, PerStation.get_map, entriesFor_append, List.foldl_append]
  have hget : ∀ m, (s.rings.map (fun m r => (entriesFor m l).foldl Ring.logged r)).get m =
      (entriesFor m l).foldl Ring.logged (s.rings.get m) := fun m => PerStation.get_map _ _ _
  unfold State.ringed
  rw [← hrings]
  refine (State.noted_noted (s := { s with rings := _ }) st
      (fun m => (s.rings.get m).records (entriesFor m l))
      (fun m => ((s.rings.map (fun m r => (entriesFor m l).foldl Ring.logged r)).get m).records (entriesFor m k))).trans
    (State.noted_congr _ _ fun m => ?_)
  rw [hget, entriesFor_append, Ring.records_append]

theorem State.appendRing_ringed (s : State) (n : Station) (e : RingEntry) :
    s.appendRing n e = s.ringed e.stamp [(n, e)] := by
  have hentries : ∀ m, entriesFor m [(n, e)] = if m = n then [e] else [] := fun m => by
    by_cases h : m = n
    · simp [entriesFor, h]
    · simp [entriesFor, h, Ne.symm h]
  have hrings : s.rings.map (fun m r => (entriesFor m [(n, e)]).foldl Ring.logged r) =
      s.rings.set n ((s.rings.get n).logged e) := PerStation.ext_get fun m => by
    rw [PerStation.get_map, PerStation.get_set, hentries]
    by_cases h : m = n
    · rw [if_pos h, if_pos h, h]
      rfl
    · rw [if_neg h, if_neg h]
      rfl
  have hnews : (fun m => (s.rings.get m).records (entriesFor m [(n, e)])) =
      fun m => eventsFor m ((s.rings.get n).record.map (fun x => (n, x))) := funext fun m => by
    rw [hentries, eventsFor_pairs]
    by_cases h : m = n
    · rw [if_pos h, if_pos h, h]
      exact List.append_nil _
    · rw [if_neg h, if_neg h]
      rfl
  have hraised : s.ringed e.stamp [(n, e)] =
      (s.setRing n ((s.rings.get n).logged e)).raiseAll e.stamp ((s.rings.get n).record.map (fun x => (n, x))) := by
    rw [State.raiseAll_noted, State.ringed, hrings, hnews]
    rfl
  rw [hraised]
  unfold State.appendRing Ring.record Ring.logged
  simp only [Config.ringCapacity]
  split
  · split
    · rfl
    · rfl
  · split
    · rfl
    · rfl

theorem State.foldl_appendRing (st : Stamp) (e : RingEntry) (hst : e.stamp = st) (f : Consumer → Bool) (l : List Consumer) :
    ∀ s : State, l.foldl (fun t c => if f c then t.appendRing c.station e else t) s =
      s.ringed st ((l.filter f).map (fun c => (c.station, e))) := by
  induction l with
  | nil => exact fun s => (s.ringed_nil st).symm
  | cons c l ih =>
    intro s
    rw [List.foldl_cons, ih]
    by_cases h : f c = true
    · rw [if_pos h, List.filter_cons_of_pos h, State.appendRing_ringed, hst, State.ringed_ringed]
      rfl
    · rw [if_neg h, List.filter_cons_of_neg h]

/-! ## The latch, slot by slot -/

/-- Slot k as the latch leaves it. -/
def State.latched (s : State) (k : Nat) : SlotState := latchedSlot (s.entry k) s.stamp (s.slot k)

/-- The entries that slot k makes, with the stations whose rings they are for (R93). -/
def State.latchPairs (s : State) (k : Nat) : List (Station × RingEntry) :=
  ((s.entry k).consumers.filter (fun c => c.live && logs c.mode (s.entry k) (s.latched k))).map
    (fun c => (c.station, ringEntryOf k s.stamp (s.latched k)))

theorem State.latchOne_ringed (s : State) (k : Nat) :
    s.latchOne k = (s.setSlot k (s.latched k)).ringed s.stamp (s.latchPairs k) :=
  State.foldl_appendRing s.stamp (ringEntryOf k s.stamp (s.latched k)) rfl _ _ _

theorem getD_set_ne {α : Type} (l : List α) {j k : Nat} (h : k ≠ j) (a d : α) : (l.set k a).getD j d = l.getD j d := by
  simp [List.getD_eq_getElem?_getD, List.getElem?_set_ne h]

theorem State.foldl_latchOne : ∀ {l : List Nat} {s : State}, l.Nodup → l.foldl (fun t k => t.latchOne k) s =
    (s.setSlots (l.foldl (fun x k => x.set k (s.latched k)) s.slots)).ringed s.stamp (l.flatMap s.latchPairs) := by
  intro l
  induction l with
  | nil => exact fun {s} _ => (s.ringed_nil s.stamp).symm
  | cons k l ih =>
    intro s hnodup
    obtain ⟨hk, hl⟩ := List.nodup_cons.mp hnodup
    let u := (s.setSlot k (s.latched k)).ringed s.stamp (s.latchPairs k)
    have hlatched : ∀ j ∈ l, u.latched j = s.latched j := fun j hj => by
      have hslot : u.slot j = s.slot j := getD_set_ne _ (by rintro rfl; exact hk hj) _ _
      show latchedSlot (s.entry j) s.stamp (u.slot j) = _
      rw [hslot]
      rfl
    have hpairs : l.flatMap u.latchPairs = l.flatMap s.latchPairs := List.flatMap_congr fun j hj => by
      unfold State.latchPairs
      rw [hlatched j hj]
      rfl
    have hslots : l.foldl (fun x j => x.set j (u.latched j)) u.slots =
        (k :: l).foldl (fun x j => x.set j (s.latched j)) s.slots :=
      List.foldl_ext _ _ _ fun x j hj => by rw [hlatched j hj]
    rw [List.foldl_cons, State.latchOne_ringed, ih hl, hpairs, hslots]
    exact State.ringed_ringed (s.setSlots ((k :: l).foldl (fun x j => x.set j (s.latched j)) s.slots)) s.stamp _ _

theorem foldl_set_get {α : Type} (g : Nat → α) (d : α) (j : Nat) : ∀ (l : List Nat) (x : List α), j < x.length →
    (l.foldl (fun x k => x.set k (g k)) x).getD j d = if j ∈ l then g j else x.getD j d := by
  intro l
  induction l with
  | nil => exact fun x _ => rfl
  | cons k l ih =>
    intro x hj
    rw [List.foldl_cons, ih _ (by rw [List.length_set]; exact hj)]
    by_cases hl : j ∈ l
    · rw [if_pos hl, if_pos (List.mem_cons_of_mem k hl)]
    · rw [if_neg hl]
      by_cases hjk : j = k
      · subst hjk
        simp [List.getD_eq_getElem?_getD, hj]
      · rw [if_neg (by simp [hjk, hl]), getD_set_ne _ (Ne.symm hjk)]

theorem foldl_set_length {α : Type} (g : Nat → α) (l : List Nat) (x : List α) :
    (l.foldl (fun x k => x.set k (g k)) x).length = x.length := by
  induction l generalizing x with
  | nil => rfl
  | cons k l ih => rw [List.foldl_cons, ih, List.length_set]

theorem State.latch_ringed (s : State) : s.latch =
    (s.setSlots (slotNumbers.foldl (fun x k => x.set k (s.latched k)) s.slots)).ringed s.stamp
      (slotNumbers.flatMap s.latchPairs) := State.foldl_latchOne List.nodup_range

theorem State.ringed_slots (s : State) (st : Stamp) (l : List (Station × RingEntry)) : (s.ringed st l).slots = s.slots := rfl

theorem State.latch_slots (s : State) : s.latch.slots = slotNumbers.foldl (fun x k => x.set k (s.latched k)) s.slots := by
  rw [State.latch_ringed, State.ringed_slots, State.setSlots_slots]

theorem State.latch_slot {s : State} (h : s.slots.length = 48) {k : Nat} (hk : k < 48) : s.latch.slot k = s.latched k := by
  have hmem : k ∈ slotNumbers := by simpa [slotNumbers, Config.slotCount] using hk
  have hget := foldl_set_get s.latched resetSlot k slotNumbers s.slots (by rw [h]; exact hk)
  rw [if_pos hmem] at hget
  rw [State.slot, State.latch_slots, hget]

theorem State.ringed_rings (s : State) (st : Stamp) (l : List (Station × RingEntry)) (n : Station) :
    (s.ringed st l).rings.get n = (entriesFor n l).foldl Ring.logged (s.rings.get n) := PerStation.get_map _ _ _

theorem State.ringed_events (s : State) (st : Stamp) (l : List (Station × RingEntry)) (n : Station) :
    (s.ringed st l).events.get n = if s.present n then (s.events.get n).appendAll (stamped st
      ((s.rings.get n).records (entriesFor n l))) else s.events.get n := State.noted_events _ _ _ _

theorem State.setSlots_present (s : State) (x : List SlotState) (n : Station) : (s.setSlots x).present n = s.present n := rfl

/-- The entries that a latch makes for one ring. -/
def State.latchFor (s : State) (n : Station) : List RingEntry := entriesFor n (slotNumbers.flatMap s.latchPairs)

theorem State.latch_rings (s : State) (n : Station) :
    s.latch.rings.get n = (s.latchFor n).foldl Ring.logged (s.rings.get n) := by
  rw [State.latch_ringed, State.ringed_rings, State.setSlots_rings, State.latchFor]

theorem State.latch_events (s : State) (n : Station) : s.latch.events.get n =
    if s.present n then (s.events.get n).appendAll (stamped s.stamp ((s.rings.get n).records (s.latchFor n)))
    else s.events.get n := by
  rw [State.latch_ringed, State.ringed_events, State.setSlots_rings, State.setSlots_events, State.setSlots_present,
    State.latchFor]

/-- The latch writes slots, rings and event queues alone. -/
theorem State.latch_keeps (s : State) : s.latch.slotMap = s.slotMap ∧ s.latch.changes = s.changes ∧
    s.latch.timer = s.timer ∧ s.latch.registry = s.registry ∧ s.latch.lane = s.lane ∧ s.latch.acks = s.acks ∧
    s.latch.ports = s.ports ∧ s.latch.due = s.due := by
  rw [State.latch_ringed]
  generalize slotNumbers.foldl (fun x k => x.set k (s.latched k)) s.slots = x
  generalize slotNumbers.flatMap s.latchPairs = l
  exact ⟨rfl, rfl, rfl, rfl, rfl, rfl, rfl, rfl⟩

/-- The latch taken by a step on an empty queue. -/
theorem step_latch {s : State} (hpending : s.pending = []) (hdue : s.due = [.latch]) (hphase : s.lane.phase = .transferStep) :
    step s = .next (s.setDue []).latch := by
  have hidle : s.idle = s.takeWork .latch := by
    unfold State.idle
    rw [hdue]
    rfl
  rw [step_idle hpending, hidle, State.takeWork_quiet (w := .latch) (by simp [hdue]) nofun hphase, State.dropWork, hdue]
  rfl

/-! ## The slots (R82 to R84) and the table of R93 -/

theorem latchedSlot_live {e : SlotEntry} {q : Producer} (hq : e.producer = some q) (hlive : q.orphaned = false) (st : Stamp)
    (x : SlotState) : latchedSlot e st x =
      if x.written then { x with delivered := some x.buffer, age := 0, fresh := true, stamp := st, written := false }
      else { x with age := saturatingSucc x.age, fresh := false, written := false } := by
  unfold latchedSlot
  simp only [hq, Producer.live, hlive, Bool.not_false, Bool.true_and]

theorem latchedSlot_orphaned {e : SlotEntry} {q : Producer} (hq : e.producer = some q) (horphaned : q.orphaned = true)
    (st : Stamp) (x : SlotState) :
    latchedSlot e st x = { x with age := saturatingSucc x.age, fresh := false, written := false } := by
  unfold latchedSlot
  simp only [hq, Producer.live, horphaned, Bool.not_true, Bool.false_and]
  rfl

theorem latchedSlot_none {e : SlotEntry} (hq : e.producer = none) (st : Stamp) (x : SlotState) :
    latchedSlot e st x = { x with delivered := none, age := 0, fresh := false, written := false } := by
  unfold latchedSlot
  rw [hq]

theorem logs_eq_entryMade (mode : LogMode) (e : SlotEntry) (x : SlotState) :
    logs mode e x = entryMade mode e.producer x.fresh := by
  unfold logs
  cases mode with
  | none => rfl
  | every => cases e.producer <;> rfl
  | fresh =>
    cases e.producer with
    | none => rfl
    | some q => obtain ⟨n, due, orphaned⟩ := q; cases orphaned <;> cases x.fresh <;> rfl

theorem filter_of_nodup {α β : Type} [DecidableEq β] {g : α → β} : ∀ {l : List α} {b : β}, (l.map g).Nodup → ∀ f : α → Bool,
    (∀ a ∈ l, f a = true → g a = b) → ∀ {γ : Type} (x : γ), (l.filter f).map (fun _ => x) = if l.any f then [x] else [] := by
  intro l
  induction l with
  | nil => exact fun _ _ _ _ _ => rfl
  | cons a l ih =>
    intro b hnodup f hf γ x
    obtain ⟨ha, hl⟩ := List.nodup_cons.mp hnodup
    have hrest := ih hl f (fun c hc => hf c (List.mem_cons_of_mem a hc)) x
    by_cases h : f a = true
    · have hnone : l.any f = false := by
        rw [List.any_eq_false]
        intro c hc hfc
        refine ha (List.mem_map.mpr ⟨c, hc, ?_⟩)
        rw [hf c (List.mem_cons_of_mem a hc) hfc, hf a List.mem_cons_self h]
      rw [hnone] at hrest
      rw [List.filter_cons_of_pos h, List.map_cons, hrest, List.any_cons, h]
      rfl
    · rw [List.filter_cons_of_neg h, hrest, List.any_cons, Bool.eq_false_of_not_eq_true h, Bool.false_or]

/-- The entries of one slot for one station: none or one (R38, R93). -/
theorem State.entriesFor_latchPairs {s : State} (h : s.mapLaw) (n : Station) (k : Nat) : entriesFor n (s.latchPairs k) =
    if (s.entry k).consumers.any (fun c => c.station = n ∧ c.orphaned = false ∧
        entryMade c.mode (s.entry k).producer (s.latched k).fresh = true) then
      [ringEntryOf k s.stamp (s.latched k)] else [] := by
  obtain ⟨-, hnodup, -⟩ := MapLaw.mapEntry_law h k
  have hfilter : entriesFor n (s.latchPairs k) = ((s.entry k).consumers.filter (fun c => c.station = n ∧ c.orphaned = false ∧
      entryMade c.mode (s.entry k).producer (s.latched k).fresh = true)).map (fun _ => ringEntryOf k s.stamp (s.latched k)) := by
    simp only [entriesFor, State.latchPairs, List.filter_map, List.filter_filter, List.map_map]
    refine congrArg (List.map _) (List.filter_congr fun c _ => ?_)
    rw [Bool.eq_iff_iff]
    simp [logs_eq_entryMade, Consumer.live]
  rw [hfilter]
  exact filter_of_nodup hnodup _ (fun c _ hc => (of_decide_eq_true hc).1) _

/-- The entries a latch makes for one ring, as the table of R93 gives them. -/
theorem State.latchFor_eq {s : State} (h : s.mapLaw) (hslots : s.slots.length = 48) (n : Station) :
    s.latchFor n = s.latchEntries s.latch n := by
  have heach : ∀ k ∈ slotNumbers, entriesFor n (s.latchPairs k) =
      (if (s.entry k).consumers.any (fun c => c.station = n ∧ c.orphaned = false ∧
          entryMade c.mode (s.entry k).producer (s.latch.slot k).fresh = true) then
        some (ringEntryOf k s.stamp (s.latch.slot k)) else none).toList := fun k hk => by
    rw [State.latch_slot hslots (by simpa [slotNumbers, Config.slotCount] using hk), State.entriesFor_latchPairs h]
    split <;> rfl
  have hnumbers : slotNumbers = List.range 48 := rfl
  rw [State.latchFor, entriesFor_flatMap, List.flatMap_congr heach, ← List.filterMap_eq_flatMap_toList, hnumbers]
  exact List.filterMap_congr fun k _ => rfl

/-- Settles O32: the slots by `State.latch_slot`, the rings and their records by `Ring.foldl_logged` and `Ring.records_eq`. -/
theorem latchFollowsTheProducerAndLogsInSlotOrder : Obligations.LatchFollowsTheProducerAndLogsInSlotOrder := by
  refine ⟨fun s hpending hdue hphase hslots => ?_, fun s n hpending hdue hphase hmap hexchange => ?_⟩
  · refine ⟨_, step_latch hpending hdue hphase, ?_⟩
    obtain ⟨hmap, hchanges, htimer, hregistry, hlane, hacks, hports, hworks⟩ := (s.setDue []).latch_keeps
    refine ⟨hmap, hchanges, htimer, hregistry, hlane, hacks, hports, hworks, ?_, fun k hk => ?_⟩
    · rw [State.latch_slots, foldl_set_length]
      exact hslots
    · intro x older
      have hslot : (s.setDue []).latch.slot k = latchedSlot (s.entry k) s.stamp x := State.latch_slot (s := s.setDue []) hslots hk
      have holder : saturatingSucc x.age = older := rfl
      rw [hslot]
      refine ⟨fun q hq hlive hwritten => ?_, fun q hq hlive hwritten => ?_, fun q hq horphaned => ?_, fun hq => ?_⟩
      · rw [latchedSlot_live hq hlive, if_pos hwritten]
        rfl
      · rw [latchedSlot_live hq hlive, if_neg (by rw [hwritten]; nofun), holder, ← hwritten]
      · rw [latchedSlot_orphaned hq horphaned, holder]
      · rw [latchedSlot_none hq]
  · refine ⟨_, step_latch hpending hdue hphase, ?_⟩
    intro r made room count run level dropping
    have hmade : (s.setDue []).latchFor n = made := State.latchFor_eq (s := s.setDue []) hmap hexchange.1 n
    have hgaps : ∀ e ∈ made, e.gap = 0 := fun e he => by
      obtain ⟨k, -, hk⟩ := List.mem_filterMap.mp he
      obtain ⟨-, hk⟩ := Option.ite_none_right_eq_some.mp hk
      rw [← Option.some_inj.mp hk]
    have hring : (s.setDue []).latch.rings.get n = made.foldl Ring.logged r := by
      rw [State.latch_rings, hmade]
      rfl
    have hevents := (s.setDue []).latch_events n
    rw [hmade] at hevents
    obtain ⟨hentries, hgap, hwatermark⟩ := Ring.foldl_logged (r := r) hgaps
    rw [hring, hevents]
    exact ⟨hentries, hgap, hwatermark, if_congr Iff.rfl (congrArg (fun l => (s.events.get n).appendAll (stamped s.stamp l))
      (Ring.records_eq made r)) rfl⟩

end Sys2Proof.Machine
end

section
/-! SUPPORT. The transfer step of the lane and the delivery of a message (R120 to R122, R127, R136, R142). -/

namespace Sys2Proof.Machine

/-! ## The settings of a boundary (R136) -/

/-- The lane settings in force once those of the boundary are applied. -/
def Lane.nextSettings (l : Lane) : LaneSettings := l.withSettings.settings

theorem Lane.nextSettings_eq (l : Lane) :
    l.nextSettings = match l.pending with | none => l.settings | some x => x := by
  unfold Lane.nextSettings Lane.withSettings
  cases l.pending <;> rfl

theorem Lane.withSettings_eq (l : Lane) : l.withSettings = { l with settings := l.nextSettings, pending := none } := by
  unfold Lane.nextSettings Lane.withSettings
  cases h : l.pending with
  | none =>
    show l = { l with pending := none }
    rw [← h]
  | some x => rfl

/-! ## Delivery (R122, R142) -/

/-- The acknowledgement table after a notice about a message, which changes its sender's entries (R141, R142). -/
def State.acksNoticed (s : State) (m : Message) (f : AckEntry → AckEntry) : PerStation (List AckEntry) :=
  s.acks.map (fun n l => if n = m.source ∧ m.ackTimeout.isSome = true then l.map f else l)

theorem State.ackNotice_eq (s : State) (m : Message) (f : AckEntry → AckEntry) :
    (if m.followed then s.setAckList m.source ((s.acks.get m.source).map f) else s) = s.setAcks (s.acksNoticed m f) := by
  have hmap : ∀ n, (s.acksNoticed m f).get n =
      if n = m.source ∧ m.ackTimeout.isSome = true then (s.acks.get n).map f else s.acks.get n :=
    fun n => PerStation.get_map _ _ _
  unfold Message.followed
  split
  · next h =>
    refine congrArg s.setAcks (PerStation.ext_get fun n => ?_)
    rw [hmap, PerStation.get_set]
    by_cases hn : n = m.source
    · rw [if_pos hn, if_pos ⟨hn, h⟩, hn]
    · rw [if_neg hn, if_neg fun k => hn k.1]
  · next h =>
    have hsame : s.acksNoticed m f = s.acks := PerStation.ext_get fun n => (hmap n).trans (if_neg fun k => h k.2)
    rw [hsame]
    rfl

/-- The acknowledgement table after the notice of a delivery (R142). -/
def State.acksDelivered (s : State) (m : Message) : PerStation (List AckEntry) := s.acksNoticed m
  (fun a => if a.seq = m.seq ∧ a.state = .inFlight then { a with state := .delivered a.timeout s.stamp } else a)

theorem State.ackDelivered_eq (s : State) (m : Message) : s.ackDelivered m = s.setAcks (s.acksDelivered m) :=
  s.ackNotice_eq m _

/-- The records of a delivery at one station (R122). -/
def Transfer.news (t : Transfer) (n : Station) : List Event :=
  (if n ∈ t.dests then [Event.messageArrived t.msg.source t.msg.cls t.msg.tag] else []) ++
  (if n = t.msg.source then [Event.sent t.msg.tag t.msg.seq] else [])

/-- The lane once a transfer is delivered. -/
def Lane.delivered (l : Lane) (t : Transfer) (st : Stamp) : Lane :=
  { l with
    rx := l.withCopies t st, transfer := none
    deferred := if t.msg.cls = .normal then some t.msg.source else l.deferred }

theorem State.deliver_noted (s : State) (t : Transfer) : s.deliver t =
    (((s.setLane (s.lane.delivered t s.stamp)).setAcks (s.acksDelivered t.msg))).noted s.stamp t.news := by
  have hnews : ∀ m, eventsFor m ((stations.filter (· ∈ t.dests)).map
      (fun n => (n, Event.messageArrived t.msg.source t.msg.cls t.msg.tag)) ++
      [(t.msg.source, Event.sent t.msg.tag t.msg.seq)]) = t.news m := fun m => by
    rw [eventsFor_append, eventsFor_each m _ (stations_nodup.filter _), eventsFor_lost, Transfer.news]
    refine congrArg₂ _ (if_congr ?_ rfl rfl) (if_congr eq_comm rfl rfl)
    simp [mem_stations]
  unfold State.deliver
  rw [State.raiseAll_noted, State.ackDelivered_eq, State.noted_congr _ _ hnews]
  rfl

/-! ## The transfer step (R121) -/

theorem State.laneTransferStep_completes {s : State} {t : Transfer} (ht : s.lane.transfer = some t)
    (h : t.remaining ≤ s.lane.nextSettings.budget) : s.laneTransferStep =
      ((s.setLane { ({ s.lane with settings := s.lane.nextSettings, pending := none } : Lane).delivered t s.stamp with
        phase := .arbitration }).setAcks (s.acksDelivered t.msg)).noted s.stamp t.news := by
  unfold State.laneTransferStep
  simp only [Lane.withSettings_eq, State.setLane_lane, ht, if_pos h, State.deliver_noted]
  rfl

theorem State.laneTransferStep_continues {s : State} {t : Transfer} (ht : s.lane.transfer = some t)
    (h : s.lane.nextSettings.budget < t.remaining) : s.laneTransferStep =
      (s.setLane { s.lane with
        settings := s.lane.nextSettings, pending := none
        transfer := some { t with remaining := t.remaining - s.lane.nextSettings.budget }
        idle := false, phase := .transferStep }).dropWork .lane := by
  unfold State.laneTransferStep
  simp only [Lane.withSettings_eq, State.setLane_lane, ht, if_neg (not_le.mpr h)]
  rfl

theorem State.laneTransferStep_free {s : State} (ht : s.lane.transfer = none) : s.laneTransferStep =
    s.setLane { s.lane with settings := s.lane.nextSettings, pending := none, phase := .arbitration } := by
  unfold State.laneTransferStep
  simp only [Lane.withSettings_eq, State.setLane_lane, ht]
  rfl

theorem Lane.completes_iff {l : Lane} {t : Transfer} (ht : l.transfer = some t) :
    l.completes = true ↔ t.remaining ≤ l.nextSettings.budget := by
  unfold Lane.completes
  rw [ht]
  exact decide_eq_true_iff

theorem exec_transferDelivery {s : State} (hdue : Work.lane ∈ s.due) (hphase : s.lane.phase = .transferStep) :
    exec .transferDelivery s = .next (if s.lane.completes then s.laneTransferStep else s) := by
  refine congrArg Host.Outcome.next (if_congr ?_ rfl rfl)
  simp [hdue, hphase]

/-- The lane's work taken as the one work due by a step on an empty queue (log entry 1). -/
theorem step_lane {s : State} (hpending : s.pending = []) (hdue : s.due = [.lane]) : step s = .next s.laneFinish := by
  have hidle : s.idle = s.takeWork .lane := by
    unfold State.idle
    rw [hdue]
    rfl
  rw [step_idle hpending, hidle, State.takeWork, if_pos (by simp [hdue]), if_pos rfl]

theorem State.laneFinish_of_ended {s : State} (h : s.laneToHold.lane.phase = .transferStep) : s.laneFinish = s.laneToHold := by
  unfold State.laneFinish
  simp only [h]

/-- Settles O39: the transfer step that completes, and the one that does not. -/
theorem transferStepMovesBytesAndDelivers : Obligations.TransferStepMovesBytesAndDelivers := by
  refine ⟨fun s t hdue hphase ht => ?_, fun s t hpending hdue hphase ht => ?_⟩
  · intro set st g copies entries news
    have hset : s.lane.nextSettings = set := s.lane.nextSettings_eq
    have hexec := exec_transferDelivery hdue hphase
    refine ⟨fun h => ?_, fun h => ?_⟩
    · rw [← hset] at h ⊢
      rw [hexec, if_pos ((Lane.completes_iff ht).mpr h), State.laneTransferStep_completes ht h]
      rfl
    · rw [← hset] at h
      rw [hexec, if_neg (mt (Lane.completes_iff ht).mp (not_le.mpr h))]
  · intro set h
    have hset : s.lane.nextSettings = set := s.lane.nextSettings_eq
    rw [← hset] at h ⊢
    have hstep := State.laneTransferStep_continues ht h
    have hended : s.laneTransferStep.lane.phase = .transferStep := by rw [hstep]; rfl
    have harbitration : s.laneToArbitration = s.laneTransferStep := State.laneToArbitration_start hphase
    have hhold : s.laneToHold = s.laneTransferStep :=
      (State.laneToHold_of_other (by rw [harbitration, hended]; nofun)).trans harbitration
    rw [step_lane hpending hdue, State.laneFinish_of_ended (by rw [hhold]; exact hended), hhold, hstep, State.dropWork]
    have hworks : s.due.erase .lane = [] := by rw [hdue]; rfl
    refine (congrArg (fun d => Host.Outcome.next ((s.setLane _).setDue d)) hworks).trans ?_
    rw [← hphase]
    rfl

end Sys2Proof.Machine
end

section
/-! SUPPORT. The arbitration of the lane and the grant (R123 to R126, R141). -/

namespace Sys2Proof.Machine

/-! ## The heads of the queues (R123, R124) -/

theorem State.headReady_eq (s : State) (m : Message) : s.headReady m = s.destinationsReady m := by
  have hroom : ∀ k, s.lane.hasRoom k = decide ((s.lane.rx.get k).length + (if s.lane.reservedAt k then 1 else 0) < 8) :=
    fun k => rfl
  unfold State.headReady State.destinationsReady
  simp only [hroom]
  cases m.dest <;> rfl

theorem State.headMayGo_eq (s : State) (n : Station) (cls : MsgClass) : s.headMayGo n cls = s.lane.deferralPasses n cls := by
  cases cls with
  | urgent => rfl
  | normal =>
    unfold State.headMayGo Lane.deferralPasses
    by_cases h : s.lane.deferred = some n <;> simp [h]

theorem State.headEligible_eq (s : State) (n : Station) (cls : MsgClass) : s.headEligible n cls = s.eligible n cls := by
  unfold State.headEligible State.eligible
  cases s.lane.queue n cls with
  | nil => rfl
  | cons m rest =>
    show (s.headReady m && s.headMayGo n cls) = (s.destinationsReady m && s.lane.deferralPasses n cls)
    rw [State.headReady_eq, State.headMayGo_eq]

theorem State.headsBlocked_eq (s : State) : s.headsBlocked = s.blockedHeads := by
  refine List.filter_congr fun x _ => ?_
  unfold State.blockedForRoom
  cases s.lane.queue x.1 x.2 with
  | nil => rfl
  | cons m rest =>
    show (!s.headReady m && s.headMayGo x.1 x.2) = (!s.destinationsReady m && s.lane.deferralPasses x.1 x.2)
    rw [State.headReady_eq, State.headMayGo_eq]

/-! ## The search (R125) -/

theorem Lane.mem_searchOrder (l : Lane) (n : Station) : n ∈ l.searchOrder := by
  unfold Lane.searchOrder
  cases l.pointer <;> cases n <;> decide

/-- The first station of the search order with an eligible head of a class. -/
theorem State.find_eligible {s : State} {n : Station} {cls : MsgClass} (h : s.eligible n cls = true)
    (hfirst : ∀ before after, s.lane.searchOrder = before ++ n :: after → ∀ k ∈ before, s.eligible k cls = false) :
    s.lane.searchOrder.find? (fun k => s.eligible k cls) = some n := by
  obtain ⟨before, after, horder⟩ := List.append_of_mem (s.lane.mem_searchOrder n)
  refine List.find?_eq_some_iff_append.mpr ⟨h, before, after, horder, fun k hk => ?_⟩
  rw [hfirst before after horder k hk]
  rfl

theorem State.winner_urgent {s : State} {n : Station} (h : s.eligible n .urgent = true)
    (hfirst : ∀ before after, s.lane.searchOrder = before ++ n :: after → ∀ k ∈ before, s.eligible k .urgent = false) :
    s.winner = some (n, .urgent) := by
  unfold State.winner
  rw [State.find_eligible h hfirst]

theorem State.winner_normal {s : State} {n : Station} (hurgent : ∀ k, s.eligible k .urgent = false)
    (h : s.eligible n .normal = true)
    (hfirst : ∀ before after, s.lane.searchOrder = before ++ n :: after → ∀ k ∈ before, s.eligible k .normal = false) :
    s.winner = some (n, .normal) := by
  have hnone : s.lane.searchOrder.find? (fun k => s.eligible k .urgent) = none :=
    List.find?_eq_none.mpr fun k _ => by rw [hurgent k]; nofun
  unfold State.winner
  rw [hnone, State.find_eligible h hfirst]
  rfl

theorem State.winner_isSome {s : State} {n : Station} {cls : MsgClass} (h : s.eligible n cls = true) :
    s.winner.isSome = true := by
  have hfound : ∃ k, s.lane.searchOrder.find? (fun k => s.eligible k cls) = some k :=
    Option.isSome_iff_exists.mp (List.find?_isSome.mpr ⟨n, s.lane.mem_searchOrder n, h⟩)
  obtain ⟨k, hk⟩ := hfound
  unfold State.winner
  split
  · rfl
  · next hnone =>
    cases cls with
    | urgent => rw [hnone] at hk; cases hk
    | normal => rw [hk]; rfl

theorem State.winner_none {s : State} (h : ∀ n cls, s.eligible n cls = false) : s.winner = none := by
  have hnone : ∀ cls, s.lane.searchOrder.find? (fun k => s.eligible k cls) = none := fun cls =>
    List.find?_eq_none.mpr fun k _ => by rw [h k cls]; nofun
  unfold State.winner
  rw [hnone, hnone]
  rfl

/-! ## The grant (R126, R141) -/

/-- The acknowledgement table after the notice of a grant (R141). -/
def State.acksGranted (s : State) (m : Message) : PerStation (List AckEntry) := s.acksNoticed m
  (fun a => if a.seq = m.seq ∧ a.state = .queued then { a with state := .inFlight } else a)

theorem State.ackGranted_eq (s : State) (m : Message) : s.ackGranted m = s.setAcks (s.acksGranted m) := s.ackNotice_eq m _

/-- The lane once the head m of a queue is granted, with the heads blocked for room. -/
def State.laneGranted (s : State) (n : Station) (cls : MsgClass) (m : Message) (rest : List Message) : Lane :=
  { s.lane.setTxQueue n cls rest with
    transfer := some { msg := m, dests := s.destinationsOf m, remaining := m.laneLength }
    pointer := n
    deferred := if s.lane.deferred = some n then some n else none
    phase := .holdCount s.headsBlocked }

theorem State.laneArbitrate_grants {s : State} {n : Station} {cls : MsgClass} {m : Message} {rest : List Message}
    (hwinner : s.winner = some (n, cls)) (hqueue : s.lane.queue n cls = m :: rest) :
    s.laneArbitrate = (s.setLane (s.laneGranted n cls m rest)).setAcks (s.acksGranted m) := by
  unfold State.laneArbitrate State.grant State.laneGranted
  simp only [hwinner, hqueue, State.ackGranted_eq, State.headsBlocked_eq]
  rfl

theorem exec_laneGrant {s t : State} (harbitration : s.laneToArbitration = t) (hdue : Work.lane ∈ s.due)
    (hphase : t.lane.phase = .arbitration) (hwinner : t.winner.isSome = true) :
    exec .laneGrant s = .next t.laneArbitrate := by
  refine congrArg Host.Outcome.next ?_
  simp only [harbitration]
  exact if_pos (by simp [hdue, hphase, hwinner])

/-- The state at the arbitration, with the settings given. -/
def State.judging (s : State) (x : LaneSettings) (y : Option LaneSettings) : State :=
  s.setLane { s.lane with settings := x, pending := y, phase := .arbitration }

theorem State.judging_eligible (s : State) (x : LaneSettings) (y : Option LaneSettings) (n : Station) (cls : MsgClass) :
    (s.judging x y).eligible n cls = s.eligible n cls := rfl

theorem State.judging_headsBlocked (s : State) (x : LaneSettings) (y : Option LaneSettings) :
    (s.judging x y).headsBlocked = s.headsBlocked := rfl

/-- The lane's work up to its arbitration, with the lane free. -/
theorem State.laneToArbitration_free {s : State} (ht : s.lane.transfer = none) :
    (s.lane.phase = .transferStep → s.laneToArbitration = s.judging s.lane.nextSettings none) ∧
    (s.lane.phase = .arbitration → s.laneToArbitration = s.judging s.lane.settings s.lane.pending) := by
  refine ⟨fun hphase => ?_, fun hphase => ?_⟩
  · rw [State.laneToArbitration_start hphase, State.laneTransferStep_free ht]
    rfl
  · rw [State.laneToArbitration_begun (by rw [hphase]; nofun), State.judging, ← hphase]
    rfl

theorem State.judging_grants {s : State} {n : Station} {cls : MsgClass} {m : Message} {rest : List Message}
    (hqueue : s.lane.queue n cls = m :: rest)
    (heligible : s.headEligible n cls = true) (hurgent : cls = .normal → ∀ k, s.headEligible k .urgent = false)
    (hfirst : ∀ before after, s.lane.searchOrder = before ++ n :: after → ∀ k ∈ before, s.headEligible k cls = false)
    (x : LaneSettings) (y : Option LaneSettings) :
    (s.judging x y).winner = some (n, cls) ∧ (s.judging x y).laneArbitrate =
      (s.setLane { s.laneGranted n cls m rest with settings := x, pending := y }).setAcks (s.acksGranted m) := by
  simp only [State.headEligible_eq] at heligible hurgent hfirst
  have hwinner : (s.judging x y).winner = some (n, cls) := by
    cases cls with
    | urgent => exact State.winner_urgent (s := s.judging x y) heligible hfirst
    | normal => exact State.winner_normal (s := s.judging x y) (hurgent rfl) heligible hfirst
  refine ⟨hwinner, (State.laneArbitrate_grants hwinner hqueue).trans ?_⟩
  cases cls with
  | urgent => rfl
  | normal => rfl

theorem State.destinationsOf_eq {s : State} {m : Message} {n : Station} (hsource : m.source = n) : s.destinationsOf m =
    match m.dest with
    | some d => [d]
    | none => [Station.s1, .s2, .s3, .s4].filter (fun k => k ≠ n && s.joined k) := by
  unfold State.destinationsOf
  rw [hsource]
  cases m.dest <;> rfl

/-- Settles O41: the search by `State.judging_grants`, a grant after a delivery by the state that the delivery leaves. -/
theorem laneGrantFollowsTheSearch : Obligations.LaneGrantFollowsTheSearch := by
  refine ⟨fun s n cls m rest hdue hphase hfree hqueue hsource => ?_, fun s t x hdue hphase hx hcompletes hexec heligible => ?_⟩
  · intro order heligible hurgent hfirst dests entries lane
    obtain ⟨hstart, hbegun⟩ := State.laneToArbitration_free hfree
    have hgrants := State.judging_grants hqueue heligible hurgent hfirst
    have hlane : s.laneGranted n cls m rest = lane := by
      unfold State.laneGranted
      rw [State.destinationsOf_eq hsource]
      rfl
    have hentries : s.acksGranted m = entries := by
      rw [State.acksGranted, State.acksNoticed, hsource]
    have hexec : ∀ y z, s.laneToArbitration = s.judging y z →
        exec .laneGrant s = .next { s with lane := { lane with settings := y, pending := z }, acks := entries } :=
      fun y z hjudging => by
        obtain ⟨hwinner, harbitrate⟩ := hgrants y z
        rw [exec_laneGrant hjudging hdue rfl (by rw [hwinner]; rfl), harbitrate, hlane, hentries]
        rfl
    obtain ⟨hsettings, hpending⟩ : lane.settings = s.lane.settings ∧ lane.pending = s.lane.pending := by
      cases cls with
      | urgent => exact ⟨rfl, rfl⟩
      | normal => exact ⟨rfl, rfl⟩
    have hsame : ∀ y z, y = s.lane.settings → z = s.lane.pending → { lane with settings := y, pending := z } = lane := by
      rintro y z rfl rfl
      rw [← hsettings, ← hpending]
    refine ⟨fun hkept => ?_, fun y hstep hy => ?_⟩
    · rcases hphase with hstep | harbitration
      · have hnone : s.lane.pending = none := hkept.resolve_left (by rw [hstep]; nofun)
        have hnext : s.lane.nextSettings = s.lane.settings := by rw [Lane.nextSettings_eq, hnone]
        rw [hexec _ _ (hstart hstep), hsame _ _ hnext hnone.symm]
      · rw [hexec _ _ (hbegun harbitration), hsame _ _ rfl rfl]
    · have hnext : s.lane.nextSettings = y := by rw [Lane.nextSettings_eq, hy]
      rw [hexec _ _ (hstart hstep), hnext]
  · obtain ⟨n, cls, heligible⟩ := heligible
    have hsettings : (match s.lane.pending with | none => s.lane.settings.budget | some y => y.budget) =
        s.lane.nextSettings.budget := by
      rw [Lane.nextSettings_eq]
      cases s.lane.pending <;> rfl
    have hcompletes' : x.remaining ≤ s.lane.nextSettings.budget := hsettings ▸ hcompletes
    have ht : s.laneTransferStep = t := by
      rw [exec_transferDelivery hdue hphase, if_pos ((Lane.completes_iff hx).mpr hcompletes')] at hexec
      exact Host.Outcome.next.inj hexec
    have hstep := State.laneTransferStep_completes hx hcompletes'
    rw [ht] at hstep
    have hdelivered : t.lane.phase = .arbitration := by rw [hstep]; rfl
    have hworks : Work.lane ∈ t.due := by rw [hstep]; exact hdue
    have hwinner : t.winner.isSome = true := State.winner_isSome (by rw [← State.headEligible_eq]; exact heligible)
    rw [exec_laneGrant ((State.laneToArbitration_start hphase).trans ht) hdue hdelivered hwinner,
      exec_laneGrant (State.laneToArbitration_begun (by rw [hdelivered]; nofun)) hworks hdelivered hwinner]

end Sys2Proof.Machine
end

section
/-! SUPPORT. The hold count of a boundary (R128, R129). -/

namespace Sys2Proof.Machine

/-! ## One head raised (R128, R129) -/

/-- A queue once its head is raised, and returned at the limit. -/
def heldQueue (limit : Nat) : List Message → List Message
  | [] => []
  | m :: rest => if limit ≤ min 255 (m.hold + 1) then rest else { m with hold := min 255 (m.hold + 1) } :: rest

/-- The head that is returned at the limit. -/
def heldGone (limit : Nat) : List Message → List Message
  | [] => []
  | m :: _ => if limit ≤ min 255 (m.hold + 1) then [m] else []

/-- The hub with a lane once the heads of `gone` have left it undelivered, station by station (R129, R143). -/
def State.headsReturned (s : State) (l : Lane) (gone : Station → List Message) : State :=
  ((s.setLane l).setAcks (s.acks.map (fun n a => withoutFollowers (gone n) a))).noted s.stamp
    (fun n => (gone n).map (fun m => Event.undeliverable m.tag m.seq .holdExpired))

theorem State.headsReturned_none (s : State) (l : Lane) : s.headsReturned l (fun _ => []) = s.setLane l := by
  have hacks : s.acks.map (fun _ a => withoutFollowers [] a) = s.acks := by
    simp only [withoutFollowers_nil]
    exact PerStation.map_same s.acks
  unfold State.headsReturned
  rw [hacks]
  exact State.noted_none _ _

theorem State.headsReturned_headsReturned (s : State) (l k : Lane) (gone also : Station → List Message) :
    (s.headsReturned l gone).headsReturned k also = s.headsReturned k (fun n => gone n ++ also n) := by
  have hacks : (s.acks.map (fun n a => withoutFollowers (gone n) a)).map (fun n a => withoutFollowers (also n) a) =
      s.acks.map (fun n a => withoutFollowers (gone n ++ also n) a) := PerStation.ext_get fun n => by
    rw [PerStation.get_map, PerStation.get_map, PerStation.get_map, withoutFollowers_append]
  unfold State.headsReturned
  rw [← hacks]
  refine (State.noted_noted ((s.setLane k).setAcks _) s.stamp
    (fun n => (gone n).map (fun m => Event.undeliverable m.tag m.seq .holdExpired))
    (fun n => (also n).map (fun m => Event.undeliverable m.tag m.seq .holdExpired))).trans
    (State.noted_congr _ _ fun n => List.map_append.symm)

theorem State.undeliverable_headsReturned (s : State) (l : Lane) (m : Message) :
    (s.setLane l).undeliverable s.stamp .holdExpired m = s.headsReturned l (fun n => if n = m.source then [m] else []) := by
  have hacks : s.acks.set m.source (withoutFollowers [m] (s.acks.get m.source)) =
      s.acks.map (fun n a => withoutFollowers (if n = m.source then [m] else []) a) := PerStation.ext_get fun n => by
    rw [PerStation.get_map, PerStation.get_set]
    by_cases hn : n = m.source
    · rw [if_pos hn, if_pos hn, hn]
    · rw [if_neg hn, if_neg hn, withoutFollowers_nil]
  have hraise : (s.setLane l).raise m.source s.stamp (.undeliverable m.tag m.seq .holdExpired) =
      (s.setLane l).noted s.stamp (fun n => (if n = m.source then [m] else []).map
        (fun m => Event.undeliverable m.tag m.seq .holdExpired)) := by
    refine ((s.setLane l).raiseAll_noted s.stamp [(m.source, .undeliverable m.tag m.seq .holdExpired)]).trans
      (State.noted_congr _ _ fun n => (eventsFor_pairs n m.source [.undeliverable m.tag m.seq .holdExpired]).trans ?_)
    split <;> rfl
  rw [State.undeliverable, State.ackGone_eq, hraise, State.headsReturned, ← hacks]
  rfl

theorem Lane.setTxQueue_same (l : Lane) (n : Station) (cls : MsgClass) : l.setTxQueue n cls (l.queue n cls) = l := by
  have hset : l.tx.set n (l.tx.get n) = l.tx := PerStation.set_get _ _
  cases cls with
  | urgent => exact congrArg (fun v => { l with tx := v }) hset
  | normal => exact congrArg (fun v => { l with tx := v }) hset

theorem State.raiseHold_headsReturned {s : State} {x : Station × MsgClass} (h : ∀ m ∈ s.lane.queue x.1 x.2, m.source = x.1) :
    s.raiseHold x = s.headsReturned
      (s.lane.setTxQueue x.1 x.2 (heldQueue s.lane.settings.holdLimit (s.lane.queue x.1 x.2)))
      (fun n => if n = x.1 then heldGone s.lane.settings.holdLimit (s.lane.queue x.1 x.2) else []) := by
  unfold State.raiseHold
  cases hq : s.lane.queue x.1 x.2 with
  | nil =>
    simp only [heldQueue, heldGone, ite_self, State.headsReturned_none]
    rw [← hq, Lane.setTxQueue_same]
    rfl
  | cons m rest =>
    have hm : m.source = x.1 := h m (by rw [hq]; exact List.mem_cons_self)
    simp only [saturatingSucc_eq, heldQueue, heldGone]
    split
    · rw [← hm]
      exact State.undeliverable_headsReturned _ _ _
    · simp only [ite_self, State.headsReturned_none]

/-! ## Every blocked head -/

/-- The lane once the heads of a list of queues are raised. -/
def Lane.held (l : Lane) (blocked : List (Station × MsgClass)) : Lane :=
  { l with
    tx := l.tx.map (fun n q =>
      { urgent := if (n, MsgClass.urgent) ∈ blocked then heldQueue l.settings.holdLimit q.urgent else q.urgent
        normal := if (n, MsgClass.normal) ∈ blocked then heldQueue l.settings.holdLimit q.normal else q.normal }) }

/-- The heads of one station that are returned, in the order of the list. -/
def Lane.heldGone (l : Lane) (blocked : List (Station × MsgClass)) (n : Station) : List Message :=
  (blocked.filter (fun x => x.1 = n)).flatMap (fun x => Machine.heldGone l.settings.holdLimit (l.queue x.1 x.2))

theorem Lane.held_queue (l : Lane) (blocked : List (Station × MsgClass)) (n : Station) (c : MsgClass) :
    (l.held blocked).queue n c =
      if (n, c) ∈ blocked then heldQueue l.settings.holdLimit (l.queue n c) else l.queue n c := by
  cases c with
  | urgent => exact congrArg TxQueues.urgent (PerStation.get_map _ _ _)
  | normal => exact congrArg TxQueues.normal (PerStation.get_map _ _ _)

/-- Lanes with the same queues have the same transmit queues. -/
theorem Lane.tx_ext {l k : Lane} (h : ∀ n c, l.queue n c = k.queue n c) : l.tx = k.tx :=
  PerStation.ext_get fun n => (congrArg₂ TxQueues.mk (h n .urgent) (h n .normal) :)

theorem Lane.held_nil (l : Lane) : l.held [] = l := by
  have htx : (l.held []).tx = l.tx := Lane.tx_ext fun n c => (l.held_queue [] n c).trans (if_neg List.not_mem_nil)
  exact congrArg (fun v => { l with tx := v }) htx

theorem Lane.held_cons {l : Lane} {x : Station × MsgClass} {blocked : List (Station × MsgClass)} (h : x ∉ blocked) :
    (l.setTxQueue x.1 x.2 (heldQueue l.settings.holdLimit (l.queue x.1 x.2))).held blocked = l.held (x :: blocked) := by
  have hsettings := (l.setTxQueue_settings x.1 x.2 (heldQueue l.settings.holdLimit (l.queue x.1 x.2))).1
  have htx : ((l.setTxQueue x.1 x.2 (heldQueue l.settings.holdLimit (l.queue x.1 x.2))).held blocked).tx =
      (l.held (x :: blocked)).tx := Lane.tx_ext fun n c => by
    rw [Lane.held_queue, Lane.held_queue, Lane.setTxQueue_queue, hsettings]
    by_cases hx : n = x.1 ∧ c = x.2
    · obtain ⟨rfl, rfl⟩ := hx
      rw [if_neg h, if_pos ⟨rfl, rfl⟩, if_pos List.mem_cons_self]
    · have hmem : (n, c) ∈ x :: blocked ↔ (n, c) ∈ blocked :=
        List.mem_cons.trans (or_iff_right fun hnc => hx ⟨congrArg Prod.fst hnc, congrArg Prod.snd hnc⟩)
      simp only [if_neg hx, hmem]
  have hrest : (l.setTxQueue x.1 x.2 (heldQueue l.settings.holdLimit (l.queue x.1 x.2))).held blocked =
      { l with tx := ((l.setTxQueue x.1 x.2 (heldQueue l.settings.holdLimit (l.queue x.1 x.2))).held blocked).tx } := by
    cases x.2 with
    | urgent => rfl
    | normal => rfl
  rw [hrest, htx]
  rfl

theorem Lane.heldGone_cons (l : Lane) (x : Station × MsgClass) (blocked : List (Station × MsgClass)) (n : Station) :
    l.heldGone (x :: blocked) n =
      (if n = x.1 then Machine.heldGone l.settings.holdLimit (l.queue x.1 x.2) else []) ++ l.heldGone blocked n := by
  unfold Lane.heldGone
  by_cases hn : x.1 = n
  · rw [List.filter_cons_of_pos (by simpa using hn), List.flatMap_cons, if_pos hn.symm]
  · rw [List.filter_cons_of_neg (by simpa using hn), if_neg (Ne.symm hn), List.nil_append]

/-- The heads returned are those of the queues named. -/
theorem Lane.heldGone_congr {l k : Lane} {blocked : List (Station × MsgClass)} (hsettings : k.settings = l.settings)
    (h : ∀ x ∈ blocked, k.queue x.1 x.2 = l.queue x.1 x.2) : k.heldGone blocked = l.heldGone blocked := funext fun n =>
  List.flatMap_congr fun x hx => by rw [hsettings, h x (List.mem_of_mem_filter hx)]

theorem State.foldl_raiseHold : ∀ {blocked : List (Station × MsgClass)} {s : State}, blocked.Nodup →
    (∀ x ∈ blocked, ∀ m ∈ s.lane.queue x.1 x.2, m.source = x.1) →
    blocked.foldl (fun t x => t.raiseHold x) s = s.headsReturned (s.lane.held blocked) (s.lane.heldGone blocked) := by
  intro blocked
  induction blocked with
  | nil =>
    intro s _ _
    rw [Lane.held_nil]
    exact (s.headsReturned_none s.lane).symm
  | cons x l ih =>
    intro s hnodup hsource
    obtain ⟨hx, hl⟩ := List.nodup_cons.mp hnodup
    have hfirst := State.raiseHold_headsReturned (hsource x List.mem_cons_self)
    have hlane : (s.raiseHold x).lane =
        s.lane.setTxQueue x.1 x.2 (heldQueue s.lane.settings.holdLimit (s.lane.queue x.1 x.2)) := by rw [hfirst]; rfl
    have hqueue : ∀ y ∈ l, (s.raiseHold x).lane.queue y.1 y.2 = s.lane.queue y.1 y.2 := fun y hy => by
      rw [hlane, Lane.setTxQueue_queue]
      refine if_neg fun hyx => hx ?_
      rwa [← Prod.ext hyx.1 hyx.2]
    have hsettings : (s.raiseHold x).lane.settings = s.lane.settings := by rw [hlane]; exact (Lane.setTxQueue_settings _ _ _ _).1
    rw [List.foldl_cons, ih hl fun y hy m hm => hsource y (List.mem_cons_of_mem x hy) m (hqueue y hy ▸ hm),
      Lane.heldGone_congr hsettings hqueue, hlane, Lane.held_cons hx, hfirst, State.headsReturned_headsReturned]
    exact congrArg (s.headsReturned _) (funext fun n => (s.lane.heldGone_cons x l n).symm)

end Sys2Proof.Machine
end

section
/-! SUPPORT. HOLD_EXPIRED (R120, R128, R129). -/

namespace Sys2Proof.Machine

/-- The hold count returns a head. -/
theorem State.holdExpires_iff (s : State) (blocked : List (Station × MsgClass)) : s.holdExpires blocked = true ↔
    ∃ x ∈ blocked, heldGone s.lane.settings.holdLimit (s.lane.queue x.1 x.2) ≠ [] := by
  have heach : ∀ x : Station × MsgClass, (!(s.lane.queue x.1 x.2).isEmpty &&
      decide (s.lane.settings.holdLimit ≤ saturatingSucc (s.lane.headHold x.1 x.2))) = true ↔
      heldGone s.lane.settings.holdLimit (s.lane.queue x.1 x.2) ≠ [] := fun x => by
    unfold Lane.headHold
    cases s.lane.queue x.1 x.2 with
    | nil => exact ⟨nofun, fun h => absurd rfl h⟩
    | cons m rest => simp [heldGone, saturatingSucc_eq]
  simp only [State.holdExpires, List.any_eq_true, heach]

/-- The hub at the hold count of a boundary, with the settings given. -/
def State.counting (s : State) (x : LaneSettings) (y : Option LaneSettings) (blocked : List (Station × MsgClass)) : State :=
  s.setLane { s.lane with settings := x, pending := y, phase := .holdCount blocked }

theorem State.laneHoldCount_eq {s : State} {blocked : List (Station × MsgClass)} (hnodup : blocked.Nodup)
    (hsource : ∀ x ∈ blocked, ∀ m ∈ s.lane.queue x.1 x.2, m.source = x.1) : s.laneHoldCount blocked =
      (s.headsReturned { s.lane.held blocked with idle := s.lane.transfer.isNone, phase := .transferStep }
        (s.lane.heldGone blocked)).dropWork .lane := by
  rw [State.laneHoldCount, State.foldl_raiseHold hnodup hsource]
  rfl

/-- No head is eligible: the arbitration grants nothing, and the hold count comes next. -/
theorem State.judging_arbitrates {s : State} (h : ∀ n cls, s.headEligible n cls = false) (x : LaneSettings)
    (y : Option LaneSettings) : (s.judging x y).laneArbitrate = s.counting x y s.headsBlocked := by
  simp only [State.headEligible_eq] at h
  have hwinner : (s.judging x y).winner = none := State.winner_none (s := s.judging x y) h
  unfold State.laneArbitrate
  rw [hwinner, ← State.headsBlocked_eq]
  rfl

theorem exec_holdExpired {s t : State} {blocked : List (Station × MsgClass)} (hhold : s.laneToHold = t)
    (hphase : t.lane.phase = .holdCount blocked) (hdue : Work.lane ∈ s.due) :
    exec .holdExpired s = .next (if t.holdExpires blocked then t.laneHoldCount blocked else s) := by
  refine congrArg Host.Outcome.next ?_
  simp only [hhold, hphase]
  exact if_congr (by simp [hdue]) rfl rfl

/-- The lane's work is due as before where it comes to its arbitration. -/
theorem State.laneToArbitration_due {s : State} (h : s.laneToArbitration.lane.phase = .arbitration) :
    s.laneToArbitration.due = s.due := by
  by_cases hphase : s.lane.phase = .transferStep
  · rw [State.laneToArbitration_start hphase] at h ⊢
    cases ht : s.lane.transfer with
    | none => rw [State.laneTransferStep_free ht]; rfl
    | some t =>
      rcases le_or_gt t.remaining s.lane.nextSettings.budget with hcompletes | hcontinues
      · rw [State.laneTransferStep_completes ht hcompletes]
        rfl
      · rw [State.laneTransferStep_continues ht hcontinues] at h
        cases h
  · rw [State.laneToArbitration_begun hphase]

/-- Settles O42: the lane's work comes to the hold count, every blocked head is raised by `State.foldl_raiseHold`. -/
theorem holdExpiredReturnsTheHead : Obligations.HoldExpiredReturnsTheHead := by
  refine ⟨fun s blocked hdue hphase hnodup hsource => ?_, fun s t hdue hphase hexec hgranted hexpired => ?_⟩
  · intro fresh settings raised expired queue gone t
    have hhold : s.laneToHold = s.counting settings (if fresh.isSome then none else s.lane.pending) blocked := by
      rcases hphase with hphase | ⟨hphase | hphase, hfree, hnone, rfl⟩
      · have hfresh : fresh = none := by simp only [fresh, hphase]
        have hsettings : settings = s.lane.settings := by simp only [settings, hfresh]
        rw [State.laneToHold_of_other (by rw [State.laneToArbitration_begun (by rw [hphase]; nofun), hphase]; nofun),
          State.laneToArbitration_begun (by rw [hphase]; nofun), hsettings, hfresh, State.counting, ← hphase]
        rfl
      · have hjudging := (State.laneToArbitration_free hfree).1 hphase
        have hfresh : fresh = s.lane.pending := by
          simp only [fresh, hphase]
          cases s.lane.pending <;> rfl
        have hsettings : settings = s.lane.nextSettings := by
          rw [Lane.nextSettings_eq]
          simp only [settings, hfresh]
          cases s.lane.pending <;> rfl
        have hpending : (if fresh.isSome then none else s.lane.pending) = none := by
          rw [hfresh]
          cases s.lane.pending <;> rfl
        rw [State.laneToHold_of_arbitration (by rw [hjudging]; rfl), hjudging, State.judging_arbitrates hnone, hsettings, hpending]
      · have hjudging := (State.laneToArbitration_free hfree).2 hphase
        have hfresh : fresh = none := by simp only [fresh, hphase]
        have hsettings : settings = s.lane.settings := by simp only [settings, hfresh]
        rw [State.laneToHold_of_arbitration (by rw [hjudging]; rfl), hjudging, State.judging_arbitrates hnone, hsettings, hfresh]
        rfl
    have hexpired : ∀ x, expired x = heldGone settings.holdLimit (s.lane.queue x.1 x.2) := fun x => by
      simp only [expired]
      cases s.lane.queue x.1 x.2 <;> rfl
    have hcount : (s.counting settings (if fresh.isSome then none else s.lane.pending) blocked).laneHoldCount blocked = t := by
      generalize hy : (if fresh.isSome then none else s.lane.pending) = y
      have hqueue : ∀ n c, ((s.counting settings y blocked).lane.held blocked).queue n c = queue n c := fun n c => by
        have hheld : heldQueue settings.holdLimit (s.lane.queue n c) = match s.lane.queue n c with
            | [] => []
            | m :: rest => if settings.holdLimit ≤ raised m then rest else { m with hold := raised m } :: rest := by
          cases s.lane.queue n c <;> rfl
        exact (Lane.held_queue _ _ _ _).trans (if_congr Iff.rfl hheld rfl)
      have htx : ((s.counting settings y blocked).lane.held blocked).tx =
          s.lane.tx.map fun n _ => { urgent := queue n .urgent, normal := queue n .normal } := PerStation.ext_get fun n => by
        rw [PerStation.get_map, ← hqueue, ← hqueue]
        rfl
      have hgone : (s.counting settings y blocked).lane.heldGone blocked = gone := funext fun n =>
        List.flatMap_congr fun x _ => (hexpired x).symm
      rw [State.laneHoldCount_eq (s := s.counting settings y blocked) hnodup fun x _ => hsource x.1 x.2, hgone]
      have hlane : ({ (s.counting settings y blocked).lane.held blocked with
          idle := s.lane.transfer.isNone, phase := .transferStep } : Lane) = t.lane := by
        refine Lane.ext_parts htx rfl rfl rfl ?_
        rw [← hy]
        rfl
      refine (congrArg (fun l => ((s.counting settings y blocked).headsReturned l gone).dropWork .lane) hlane).trans ?_
      rfl
    refine ⟨fun hsome => ?_, fun hpending hworks => ?_⟩
    · rw [exec_holdExpired hhold rfl hdue, if_pos ((State.holdExpires_iff _ _).mpr ?_), hcount]
      obtain ⟨x, hx, hne⟩ := hsome
      exact ⟨x, hx, fun h => hne ((hexpired x).trans h)⟩
    · rw [step_lane hpending hworks, State.laneFinish_of_holdCount (b := blocked) (by rw [hhold]; rfl), hhold, hcount]
  · have hgrants : s.laneToArbitration.lane.phase = .arbitration ∧ t = s.laneToArbitration.laneArbitrate := by
      have hexec' : (if s.due.contains .lane && s.laneToArbitration.lane.phase == .arbitration &&
          s.laneToArbitration.winner.isSome then s.laneToArbitration.laneArbitrate else s) = t := Host.Outcome.next.inj hexec
      split at hexec'
      · next h =>
        simp only [Bool.and_eq_true, beq_iff_eq] at h
        exact ⟨h.1.2, hexec'.symm⟩
      · exact absurd hexec'.symm hgranted
    obtain ⟨harbitration, rfl⟩ := hgrants
    have hphase' := State.laneArbitrate_phase s.laneToArbitration
    have hsame : s.laneToArbitration.laneArbitrate.laneToHold = s.laneToArbitration.laneArbitrate := by
      have hbegun : s.laneToArbitration.laneArbitrate.lane.phase ≠ .transferStep := by rw [hphase']; nofun
      rw [State.laneToHold_of_other (by rw [State.laneToArbitration_begun hbegun, hphase']; nofun),
        State.laneToArbitration_begun hbegun]
    obtain ⟨u, hu, hne⟩ := hexpired
    have hdue' : Work.lane ∈ s.laneToArbitration.laneArbitrate.due := by
      rw [(State.laneArbitrate_sameBesideLane _).works, State.laneToArbitration_due harbitration]
      exact hdue
    rw [exec_holdExpired hsame hphase' hdue'] at hu ⊢
    rw [exec_holdExpired (State.laneToHold_of_arbitration harbitration) hphase' hdue]
    have hsome : s.laneToArbitration.laneArbitrate.holdExpires s.laneToArbitration.blockedHeads = true := by
      by_contra h
      rw [if_neg h] at hu
      exact hne (Host.Outcome.next.inj hu).symm
    rw [if_pos hsome, if_pos hsome]

end Sys2Proof.Machine
end
